-- ==== Sys2Proof/Word.lean ====
section
/-! DEFINITION. The widths of the part (00_scope.md, Conventions) and the points of its geometry. -/

namespace Sys2Proof

/-- A data word of 32 bits. -/
abbrev Word := BitVec 32

/-- A 20-bit word address. Address arithmetic wraps (R3). -/
abbrev Addr := BitVec 20

/-- Sixteen bits: an argument field, an entity tag, a sequence number. -/
abbrev Half := BitVec 16

/-- A point (x, y). Screen points lie in 0..4095 per axis, effective points in −32768..36855 (R11);
a vector (an offset, a direction, a pitch) is written as a point too. All arithmetic on them is exact
integer arithmetic (R63). -/
structure Pt where
  x : Int
  y : Int
deriving DecidableEq, Repr

namespace Pt

/-- Sum per coordinate. -/
def add (p q : Pt) : Pt := ⟨p.x + q.x, p.y + q.y⟩

/-- Difference per coordinate. -/
def sub (p q : Pt) : Pt := ⟨p.x - q.x, p.y - q.y⟩

/-- The dot product. -/
def dot (p q : Pt) : Int := p.x * q.x + p.y * q.y

/-- The point lies on the screen: 0..4095 on each axis. -/
abbrev OnScreen (p : Pt) : Prop := 0 ≤ p.x ∧ p.x ≤ 4095 ∧ 0 ≤ p.y ∧ p.y ≤ 4095

end Pt

end Sys2Proof
end

