-- ==== Sys2Proof/Syntax.lean ====
section
/-! DEFINITION. The commands of the block: one constructor per row of spec/opcode_table.json, with the row's operands. -/

namespace Sys2Proof

/-- The blink channel that a CHANNEL_RELOAD names. In CASCADE mode both names mean the cascaded channel (R134). -/
inductive ChannelName where
  | a
  | b
deriving DecidableEq, Repr

/-- The commands. Each constructor's docstring cites the rule of its row. `mem` is the word that display-list
memory holds at the address read: it is the answer where the read is forwarded (R146). -/
inductive Instr where
  /-- R157: power-on with the BASE pins at `straps`, the RESET pin held or not (R152). -/
  | powerOn (straps : BitVec 6) (pinHeld : Bool)
  /-- R152. -/
  | resetPinAsserted
  /-- R157: release of the RESET pin with the BASE pins at `straps`. -/
  | resetPinReleased (straps : BitVec 6)
  /-- R150: a STROKE read. -/
  | strokeRead (addr : Addr) (mem : Word)
  /-- R136: the reload step of one blink channel. -/
  | channelReload (ch : ChannelName)
  /-- R139: the step of φ from 0. -/
  | dashPhaseWrap
  /-- R171: a HOST read of result word 0 (pane word 10). -/
  | resultLatchOpen (mem : Word)
  /-- R172: a HOST read of the result record's last word (pane word 17). -/
  | resultLastWordRead (mem : Word)
  /-- R171: a HOST read of commit word 0 (pane word 18). -/
  | commitLatchOpen (mem : Word)
  /-- R172: a HOST read of the commit record's last word (pane word 21). -/
  | commitLastWordRead (mem : Word)
  /-- R173: a HOST read of peek word 0 (pane word 43). -/
  | peekLatchOpen (mem : Word)
  /-- R173: a HOST read of the last peek word (pane word 46). -/
  | peekLastWordRead (mem : Word)
  /-- R159: a write to word 1..7 of a slot. -/
  | slotArgumentWrite (slot : BitVec 4) (word : BitVec 3) (data : Word)
  /-- R160: a write to word 0 of a slot. -/
  | directivePosting (slot : BitVec 4) (data : Word)
  /-- R83: a write to word 0 or 1 of a mailbox record. -/
  | mailboxWordWrite (record : BitVec 5) (word : BitVec 2) (data : Word)
  /-- R84: a status write, to word 3 of a mailbox record. -/
  | sample (record : BitVec 5) (status : Word)
  /-- R36: a write at any address outside the strap block. -/
  | withdrawalWrite (addr : Addr) (data : Word)
  /-- R148: a write to a word of the status pane. -/
  | paneWrite (word : BitVec 6) (data : Word)
  /-- R26. -/
  | startTaken
  /-- R27. -/
  | endTaken
  /-- R28. -/
  | discardTaken
  /-- R31. -/
  | segmentItemTaken
  /-- R33. -/
  | circleItemTaken
  /-- R45. -/
  | searchStart
  /-- R47. -/
  | entryExamined
  /-- R58. -/
  | searchComplete
  /-- R115. -/
  | passEnd
  /-- R178. -/
  | faultTaken
  /-- R155: execution of a CONFIGURE at the head of the directive queue (and so on, R163). -/
  | configure
  /-- R156. -/
  | restart
  /-- R183. -/
  | resume
  /-- R179. -/
  | setResponses
  /-- R182. -/
  | clearFaults
  /-- R185. -/
  | setWatch
  /-- R142. -/
  | freeze
  /-- R142. -/
  | thaw
  /-- R141. -/
  | setBlink
  /-- R95. -/
  | setInput
  /-- R96. -/
  | setCursor
  /-- R94. -/
  | setButtons
  /-- R61. -/
  | setSnap
  /-- R79. -/
  | setGrid
  /-- R80. -/
  | loadDirections
  /-- R81. -/
  | continueDirections
  /-- R82. -/
  | setConstraint
  /-- R105. -/
  | setAnchor
  /-- R105. -/
  | clearAnchor
  /-- R106. -/
  | trailAppend
  /-- R107. -/
  | trailDrop
  /-- R108. -/
  | trailClear
  /-- R112. -/
  | setBand
  /-- R132. -/
  | setStyle
  /-- R175. -/
  | setNotify
  /-- R176. -/
  | clearEvents
  /-- R173. -/
  | setPeek
  /-- R166. -/
  | unknownKind
deriving DecidableEq, Repr

end Sys2Proof
end

