-- ==== Sys2Proof/Decode.lean ====
section
/-! DEFINITION. The commands that words spell. spec/opcode_table.json gives no row any bits (every "fields" is empty), so
there is none: commands reach the block as events, not as words (log 16). -/

namespace Sys2Proof

/-- The command spelled by the `nbits` bits of `w`: none, since no row of the table has bits (log 16). -/
def decodeTableWord (_nbits _w : Nat) : Option Instr := none

end Sys2Proof
end

