-- ==== Sys2Proof/Config.lean ====
section
/-! DEFINITION. What the spec leaves open: the order of two effects that meet inside one STROKE read. -/

namespace Sys2Proof

/-- FREE VALUE (log 9). R131 and R144: when a fetch watch with action FREEZE matches the read of the window base
or of the list base, the freeze and the latch (or the frame-start step) "are two effects of one read, and either may be
taken first". At the n-th such meeting the freeze is taken first when this is true. It has no body: nothing can be
proved of its value. -/
opaque Config.freezeFirst : Nat → Bool

end Sys2Proof
end

