-- ==== Sys2Proof/Machine/State.lean ====
section
/-! DEFINITION. The state of the part, block by block (00_scope.md, Block overview), the queue of waiting commands, the
reasons a step can stop, and the machine after a cold reset. -/

namespace Sys2Proof.Machine

/-- Why the machine stops with a fault: it never does. Every command of this part has an effect the spec gives, and the
part's own fourteen fault codes (12.1) are effects on State. -/
inductive Fault where
deriving DecidableEq, Repr

/-- Why a command is refused. -/
inductive Refusal where
  /-- Raised by an arm of exec for a command that has no meaning yet (safe). No arm raises it now. -/
  | notModelled (mnemonic : String)
deriving DecidableEq, Repr

/-- Three like things, numbered 0, 1, 2 (the banks). -/
structure Triplet (α : Type) where
  e0 : α
  e1 : α
  e2 : α
deriving DecidableEq, Repr

/-- Two like things, numbered 0, 1 (the watches, the locate records). -/
structure Two (α : Type) where
  e0 : α
  e1 : α
deriving DecidableEq, Repr

/-! ### Transit Port (chapter 9) -/

/-- R151. -/
inductive OpState where
  | disabled
  | transparent
  | passive
  | active
  | bypass
deriving DecidableEq, Repr

/-- R158. -/
inductive ResetCause where
  | power
  | pin
  | restart
deriving DecidableEq, Repr

/-- R153: list base, preview window, sample mailbox. -/
structure RegionMap where
  listBase : Addr
  windowBase : Addr
  windowLen : Nat
  mailboxBase : Addr
  records : Nat
deriving DecidableEq, Repr

/-- The Transit Port's own state; a configuration is held when `config` is present. -/
structure Port where
  strap : BitVec 6
  config : Option RegionMap
  op : OpState
  cause : ResetCause
deriving DecidableEq, Repr

/-- A transfer forwarded to display-list memory (R148, R149). -/
inductive Downstream where
  | read (addr : Addr)
  | write (addr : Addr) (data : Word)
deriving DecidableEq, Repr

/-- The bus pins at the latest transfer: what went downstream, and the word answered upstream to a read. -/
structure Bus where
  downstream : Option Downstream
  upstream : Option Word
deriving DecidableEq, Repr

/-! ### Fetch Tracker (chapter 1) -/

/-- R12. -/
inductive TrackState where
  | halted
  | waiting
  | tracking
  | lost
deriving DecidableEq, Repr

/-- The address and length (1 or 2 words) of a stroke record. A span of length 2 at 0xFFFFF covers 0xFFFFF and
0x00000 (R34). -/
structure Span where
  addr : Addr
  len : Nat
deriving DecidableEq, Repr

/-- The part of the tracker that ENTITY replaces (R7). -/
structure Attr where
  intensity : BitVec 3
  inert : Bool
  tag : Half
deriving DecidableEq, Repr

/-- An open call (R8). -/
structure CallEntry where
  ret : Addr
  offset : Pt
  attr : Attr
deriving DecidableEq, Repr

/-- A record whose head word is taken and whose last word is not (R2). `head` is the address of its first word. -/
inductive Partial where
  /-- Waits for word 1; `inWindow` is IN-WINDOW at the head word (R16). -/
  | circle (head : Addr) (centre : Pt) (inWindow : Bool)
  /-- Waits for word 1. -/
  | call (head target : Addr)
  /-- Waits for `left` more character words. -/
  | label (head : Addr) (left : Nat)
deriving DecidableEq, Repr

/-- The table of section 1.1. The call stack is newest first. -/
structure Tracker where
  state : TrackState
  frameOpen : Bool
  expected : Addr
  record : Option Partial
  lastWord : Addr
  current : Pt
  origin : Option Span
  offset : Pt
  attr : Attr
  calls : List CallEntry
  inWindow : Bool
  frames : BitVec 32
deriving DecidableEq, Repr

/-! ### Harvester (chapter 2) -/

/-- An entry of the harvest queue (R17). A START carries its pending drop count and INCOMPLETE note (R24). -/
inductive QItem where
  | start (frame : BitVec 32) (centre : Pt) (drops : Nat) (incomplete : Bool)
  | segment (p0 p1 : Pt) (source : Span) (origin : Option Span) (tag : Half)
  | circle (centre : Pt) (radius : Nat) (source : Span) (tag : Half)
  | endMark
  | discard
deriving DecidableEq, Repr

/-- R25. -/
inductive BankState where
  | empty
  | filling
  | ready
  | current
deriving DecidableEq, Repr

/-- R26. The entry count is the length of the entry list. -/
structure Header where
  frame : BitVec 32
  centre : Pt
  half : Nat
  dropped : Nat
  crowded : Bool
  incomplete : Bool
deriving DecidableEq, Repr

/-- The snap kind of a POINT entry (R34). -/
inductive PointKind where
  | endpoint
  | midpoint
  | centre
  | quadrant
deriving DecidableEq, Repr

/-- The type fields of a candidate entry (R34). -/
inductive Shape where
  | point (k : PointKind) (p : Pt)
  | segment (p0 p1 : Pt)
  | circle (centre : Pt) (radius : Nat)
deriving DecidableEq, Repr

/-- A candidate entry (R34). -/
structure Entry where
  shape : Shape
  source : Span
  origin : Option Span
  tag : Half
  withdrawn : Bool
deriving DecidableEq, Repr

/-- One bank. An EMPTY bank holds the header of `Bank.released` and no entries (log 15). -/
structure Bank where
  state : BankState
  header : Header
  entries : List Entry
deriving DecidableEq, Repr

/-- The number of a bank. -/
inductive BankId where
  | b0
  | b1
  | b2
deriving DecidableEq, Repr

/-- The table at the head of chapter 2. -/
structure Harvester where
  queue : List QItem
  banks : Triplet Bank
  lastEndpoint : Option Pt
deriving DecidableEq, Repr

/-! ### Search Engine and its settings (chapters 3 and 4) -/

/-- The object kinds of a contender (R48 to R50). -/
inductive SnapKind where
  | endpoint
  | midpoint
  | centre
  | quadrant
  | nearest
  | perpendicular
deriving DecidableEq, Repr

/-- R59, and NONE of the reset value (R62). -/
inductive ResultKind where
  | none
  | object (k : SnapKind)
  | grid
  | constrained
  | free
deriving DecidableEq, Repr

/-- A PRESS request: the point and the press mask (R41). -/
structure Press where
  point : Pt
  mask : BitVec 4
deriving DecidableEq, Repr

/-- The request a search was started for (R41). -/
inductive Request where
  | press (p : Press)
  | motion
deriving DecidableEq, Repr

/-- R61: one priority per kind, 0 is off. -/
structure Priorities where
  endpoint : Nat
  midpoint : Nat
  centre : Nat
  quadrant : Nat
  nearest : Nat
  perpendicular : Nat
deriving DecidableEq, Repr

/-- R61. -/
structure SnapSettings where
  prio : Priorities
  aperture : Nat
  half : Nat
  margin : Nat
deriving DecidableEq, Repr

/-- R79. -/
structure GridSettings where
  on : Bool
  origin : Pt
  pitch : Pt
deriving DecidableEq, Repr

/-- R82. -/
inductive ConstraintMode where
  | off
  | table
  | ortho
deriving DecidableEq, Repr

/-- R53: `point` is present for the point kinds. -/
structure HoldId where
  source : Addr
  kind : SnapKind
  point : Option Pt
deriving DecidableEq, Repr

/-- A contender kept by the search (R51): `place` is its entry's place in the bank, `second` marks the second contender of
a SEGMENT. The hold candidate has the same fields (R53). -/
structure Contender where
  kind : SnapKind
  point : Pt
  d2 : Nat
  place : Nat
  second : Bool
  source : Addr
  tag : Half
deriving DecidableEq, Repr

/-- The search in flight (R46, R47, R53). `holdMet` says that the first entry matching the identity has been examined. -/
structure Search where
  request : Request
  cursor : Pt
  bank : Option BankId
  anchor : Option Pt
  prio : Priorities
  aperture : Nat
  margin : Nat
  grid : GridSettings
  dirs : Vector Pt 16
  mode : ConstraintMode
  identity : Option HoldId
  next : Nat
  kept : List Contender
  holdMet : Bool
  hold : Option Contender
deriving DecidableEq, Repr

/-- The result record (R59). NO-SOURCE is the absence of `source`. -/
structure Result where
  seq : Half
  press : Bool
  kind : ResultKind
  point : Pt
  cursor : Pt
  d2 : Nat
  source : Option (Addr × Half)
  bankFrame : BitVec 32
  stale : Bool
  withdrawn : Bool
  edge : Bool
  held : Bool
  gridded : Bool
  unconstrained : Bool
  outOfRange : Bool
deriving DecidableEq, Repr

/-- The table at the head of chapter 3. The request list is `presses` and then, when `motion`, one MOTION (R42). The engine
is SEARCHING when `search` is present. `startOwed` is the model's own: step 8 of a completion found a request pending, so that the
search starts before an END is taken (R29, R58; log 24). -/
structure SearchEngine where
  presses : List Press
  motion : Bool
  search : Option Search
  result : Result
  identity : Option HoldId
  snap : SnapSettings
  grid : GridSettings
  dirs : Vector Pt 16
  mode : ConstraintMode
  startOwed : Bool
deriving DecidableEq, Repr

/-! ### Cursor Unit (chapter 5) -/

/-- R95. -/
inductive Source where
  | none
  | tablet
  | wheels
  | directed
deriving DecidableEq, Repr

/-- R100: the actions of a mapped button. -/
inductive PressAction where
  | commit
  | anchor
  | clear
deriving DecidableEq, Repr

/-- The table at the head of chapter 5. A button mapped NONE has no action. `inRange` is proximity IN. -/
structure CursorUnit where
  source : Source
  ox : Nat
  oy : Nat
  gx : Nat
  gy : Nat
  wheel : Nat
  map : Vector (Option PressAction) 4
  pos : Pt
  edge : Bool
  inRange : Bool
  prev : BitVec 4
  ring : Nat
  capture : Vector (Word × Word) 32
deriving DecidableEq, Repr

/-! ### Band Unit (chapter 6) -/

/-- R98: a present anchor and its link. -/
structure Anchor where
  point : Pt
  linked : Bool
deriving DecidableEq, Repr

/-- R109. -/
inductive BandShape where
  | none
  | line
  | box
  | circle
  | poly
deriving DecidableEq, Repr

/-- The commit record (R103). NO-SOURCE is the absence of `source`; `full` is the outcome TRAIL FULL. -/
structure CommitRecord where
  seq : Half
  action : PressAction
  full : Bool
  button : Fin 4
  point : Pt
  kind : ResultKind
  source : Option (Addr × Half)
  resultSeq : Half
deriving DecidableEq, Repr

/-- The table at the head of chapter 6. The trail is oldest first. -/
structure Band where
  anchor : Option Anchor
  trail : List Pt
  shape : BandShape
  period : Nat
  onLen : Nat
  march : Bool
  commit : CommitRecord
deriving DecidableEq, Repr

/-! ### Preview Composer (chapter 7) -/

/-- The record kinds the composer emits (R114). ENTITY always carries INERT and tag 0 (R118). -/
inductive Rec where
  | entity (intensity : Nat)
  | move (p : Pt)
  | draw (p : Pt)
  | circle (centre : Pt) (radius : Nat)
  | ret
deriving DecidableEq, Repr

/-- A composed list (R114). -/
structure Composed where
  recs : List Rec
  dashCapped : Bool
  shedDash : Bool
  shedTrail : Bool
  shedMarker : Bool
  shedBand : Bool
  shedCount : Nat
  resultSeq : Half
deriving DecidableEq, Repr

/-- R132. -/
inductive Glyph where
  | cross
  | full
  | box
deriving DecidableEq, Repr

/-- R132. -/
structure Style where
  glyph : Glyph
  arm : Nat
  markerHalf : Nat
  cursorIntensity : Nat
  markerIntensity : Nat
  bandIntensity : Nat
deriving DecidableEq, Repr

/-- The inputs a composition pass reads at its start (R115). -/
structure PassInputs where
  cursor : Pt
  inRange : Bool
  resultPoint : Pt
  resultKind : ResultKind
  resultSeq : Half
  anchor : Option Pt
  trail : List Pt
  shape : BandShape
  period : Nat
  onLen : Nat
  phase : Nat
  markerGate : Bool
  cursorGate : Bool
  style : Style
  windowLen : Nat
deriving DecidableEq, Repr

/-- The table at the head of chapter 7. The composer is COMPOSING when `pass` is present. -/
structure Composer where
  pass : Option PassInputs
  again : Bool
  staged : Composed
  serving : Composed
  entered : Bool
  style : Style
deriving DecidableEq, Repr

/-! ### Pattern Counters (chapter 8) -/

/-- One 8-bit blink channel (R134). -/
structure Channel where
  reload : Nat
  compare : Nat
  run : Bool
  count : Nat
  out : Bool
deriving DecidableEq, Repr

/-- The table at the head of chapter 8. -/
structure Patterns where
  cascade : Bool
  a : Channel
  b : Channel
  phase : Nat
  frozen : Bool
deriving DecidableEq, Repr

/-! ### Directive Unit (chapter 10) -/

/-- A queued directive (R160): `args` are argument words 1..7. -/
structure DirEntry where
  slot : BitVec 4
  kind : BitVec 8
  tag : BitVec 8
  args : Vector Word 7
deriving DecidableEq, Repr

/-- The refusal reasons of Table 10-1. -/
inductive Reason where
  | unknownKind
  | badRegion
  | wrongSource
  | indexRange
  | noContinuation
  | trailFull
  | trailEmpty
  | notStopped
  | notActive
deriving DecidableEq, Repr

/-- Directive progress (R167): the outcome is REFUSED when `reason` is present. -/
structure Progress where
  count : Half
  slot : BitVec 4
  kind : BitVec 8
  tag : BitVec 8
  reason : Option Reason
deriving DecidableEq, Repr

/-- The table at the head of chapter 10. The shadow word w, 1..7, of slot s stands at 7 s + w − 1. -/
structure DirectiveUnit where
  shadow : Vector Word 112
  queue : List DirEntry
  progress : Progress
  continuation : Option Nat
deriving DecidableEq, Repr

/-! ### Status Pane (chapter 11) -/

/-- A copy of the peek window: the pointer that selected it and the entry shown, absent at END (R173). -/
structure PeekCopy where
  pointer : Nat
  entry : Option Entry
deriving DecidableEq, Repr

/-- The table at the head of chapter 11. An open latch holds its copy. -/
structure StatusPane where
  flags : BitVec 9
  mask : BitVec 9
  resultLatch : Option Result
  commitLatch : Option CommitRecord
  peekLatch : Option PeekCopy
  peek : Nat
deriving DecidableEq, Repr

/-! ### Fault Unit (chapter 12) -/

/-- The fault codes of section 12.1. -/
inductive FaultCode where
  | nestOverflow
  | nestUnderflow
  | trackLost
  | unknownRecord
  | frameAborted
  | bankCrowded
  | queueOverrun
  | queueOverflow
  | refused
  | mailboxOrder
  | pressOverrun
  | commitFailed
  | windowOverread
  | windowEntry
deriving DecidableEq, Repr

/-- A fault raised and not yet taken (R178). -/
structure Raised where
  code : FaultCode
  detail : BitVec 20
  tag : BitVec 8
deriving DecidableEq, Repr

/-- A fault record (R178); its class follows from its code. -/
structure FaultRecord where
  code : FaultCode
  detail : BitVec 20
  tag : BitVec 8
  frame : Half
  seq : Half
deriving DecidableEq, Repr

/-- R179: STOP is `true`, CONTINUE is `false`. -/
structure Responses where
  traversal : Bool
  harvest : Bool
  directive : Bool
  input : Bool
  window : Bool
deriving DecidableEq, Repr

/-- R185. -/
inductive WatchAction where
  | note
  | freeze
  | locate
deriving DecidableEq, Repr

/-- R185. -/
structure Watch where
  on : Bool
  addr : Addr
  action : WatchAction
deriving DecidableEq, Repr

/-- R187. -/
inductive Locate where
  | none
  | known (point : Pt) (depth : Nat) (tag : Half)
  | unknown
deriving DecidableEq, Repr

/-- The table at the head of chapter 12, and the faults raised and not yet taken, oldest first (log 6). -/
structure FaultUnit where
  last : Option FaultRecord
  seq : Half
  stopCause : Option FaultRecord
  latch : BitVec 14
  responses : Responses
  watches : Two Watch
  locates : Two Locate
  raised : List Raised
deriving DecidableEq, Repr

/-! ### The whole part -/

/-- The state. `orderChoices` is the model's own: it counts the free choices of order (log 9). `pending` is the queue of
waiting commands, first in, first out. -/
structure State where
  port : Port
  bus : Bus
  trk : Tracker
  hv : Harvester
  se : SearchEngine
  cu : CursorUnit
  band : Band
  comp : Composer
  pat : Patterns
  dir : DirectiveUnit
  pane : StatusPane
  flt : FaultUnit
  orderChoices : Nat
  pending : List Instr
deriving DecidableEq, Repr

/-! ### Reset values -/

/-- R20. -/
def Tracker.resetValue : Tracker where
  state := .halted
  frameOpen := false
  expected := 0
  record := none
  lastWord := 0
  current := ⟨0, 0⟩
  origin := none
  offset := ⟨0, 0⟩
  attr := ⟨7, false, 0⟩
  calls := []
  inWindow := false
  frames := 0

/-- An EMPTY bank (R25; log 15). -/
def Bank.released : Bank :=
  ⟨.empty, ⟨0, ⟨0, 0⟩, 0, 0, false, false⟩, []⟩

/-- R40. -/
def Harvester.emptied : Harvester :=
  ⟨[], ⟨Bank.released, Bank.released, Bank.released⟩, none⟩

/-- R62. -/
def Result.resetValue : Result where
  seq := 0
  press := false
  kind := .none
  point := ⟨2048, 2048⟩
  cursor := ⟨2048, 2048⟩
  d2 := 0
  source := none
  bankFrame := 0
  stale := false
  withdrawn := false
  edge := false
  held := false
  gridded := false
  unconstrained := false
  outOfRange := false

/-- R82: the eight 45 degree directions; entries 8..15 unused. -/
def defaultDirections : Vector Pt 16 :=
  #v[⟨1, 0⟩, ⟨1, 1⟩, ⟨0, 1⟩, ⟨-1, 1⟩, ⟨-1, 0⟩, ⟨-1, -1⟩, ⟨0, -1⟩, ⟨1, -1⟩,
     ⟨0, 0⟩, ⟨0, 0⟩, ⟨0, 0⟩, ⟨0, 0⟩, ⟨0, 0⟩, ⟨0, 0⟩, ⟨0, 0⟩, ⟨0, 0⟩]

/-- R62, R82: the cold-reset values of the Search Engine. -/
def SearchEngine.resetValue : SearchEngine where
  presses := []
  motion := false
  search := none
  result := Result.resetValue
  identity := none
  snap := ⟨⟨6, 4, 5, 3, 1, 2⟩, 12, 256, 4⟩
  grid := ⟨false, ⟨0, 0⟩, ⟨64, 64⟩⟩
  dirs := defaultDirections
  mode := .off
  startOwed := false

/-- R97: the cold-reset values of the Cursor Unit. -/
def CursorUnit.resetValue : CursorUnit where
  source := .tablet
  ox := 0
  oy := 0
  gx := 4096
  gy := 4096
  wheel := 1
  map := #v[some .commit, none, none, none]
  pos := ⟨2048, 2048⟩
  edge := false
  inRange := false
  prev := 0
  ring := 0
  capture := Vector.replicate 32 (0, 0)

/-- R103. -/
def CommitRecord.resetValue : CommitRecord :=
  ⟨0, .commit, false, 0, ⟨0, 0⟩, .none, none, 0⟩

/-- R112, R113: the cold-reset values of the Band Unit. -/
def Band.resetValue : Band :=
  ⟨none, [], .line, 0, 0, false, CommitRecord.resetValue⟩

/-- The empty list: the single RETURN (R114). -/
def Composed.emptyList : Composed :=
  ⟨[.ret], false, false, false, false, false, 0, 0⟩

/-- R132, R133: the cold-reset values of the Preview Composer. -/
def Composer.resetValue : Composer :=
  ⟨none, false, Composed.emptyList, Composed.emptyList, false, ⟨.cross, 24, 6, 7, 5, 6⟩⟩

/-- R145: the cold-reset values of the Pattern Counters. -/
def Patterns.resetValue : Patterns :=
  ⟨false, ⟨31, 15, true, 31, false⟩, ⟨0, 0, true, 0, true⟩, 0, false⟩

/-- R168. -/
def Progress.resetValue : Progress := ⟨0, 0, 0, 0, none⟩

/-- R168: the cold-reset values of the Directive Unit. -/
def DirectiveUnit.resetValue : DirectiveUnit :=
  ⟨Vector.replicate 112 0, [], Progress.resetValue, none⟩

/-- R177: the cold-reset values of the Status Pane. -/
def StatusPane.resetValue : StatusPane := ⟨0, 0, none, none, none, 0⟩

/-- R188: the cold-reset values of the Fault Unit. No raised fault waits (log 8). -/
def FaultUnit.resetValue : FaultUnit :=
  ⟨none, 0, none, 0, ⟨false, false, false, false, true⟩, ⟨⟨false, 0, .note⟩, ⟨false, 0, .note⟩⟩, ⟨.none, .none⟩, []⟩

/-- The machine right after a cold reset (R157) with the straps at 0 and the RESET pin released (log 2): PASSIVE, no
configuration held, reset cause POWER. -/
def State.reset : State where
  port := ⟨0, none, .passive, .power⟩
  bus := ⟨none, none⟩
  trk := Tracker.resetValue
  hv := Harvester.emptied
  se := SearchEngine.resetValue
  cu := CursorUnit.resetValue
  band := Band.resetValue
  comp := Composer.resetValue
  pat := Patterns.resetValue
  dir := DirectiveUnit.resetValue
  pane := StatusPane.resetValue
  flt := FaultUnit.resetValue
  orderChoices := 0
  pending := []

end Sys2Proof.Machine
end

