-- ==== Sys2Proof/Machine/Arith.lean ====
section
/-! DEFINITION. Snap arithmetic (chapter 4): every computation of the table at the head of the chapter, exact (R63). -/

namespace Sys2Proof.Machine

/-- round(p/q), q > 0, half away from zero (R64). -/
def roundDiv (p q : Int) : Int := p.sign * ((2 * p.natAbs + q) / (2 * q))

/-- floor(p/q), q > 0 (R64). -/
def floorDiv (p q : Int) : Int := p / q

/-- The greatest r with r² ≤ n, found bit by bit from bit `k - 1` down, given the bits found so far. -/
def sqrtFrom : Nat → Nat → Nat → Nat
  | 0, _, r => r
  | k + 1, n, r => if (r + 2 ^ k) * (r + 2 ^ k) ≤ n then sqrtFrom k n (r + 2 ^ k) else sqrtFrom k n r

/-- The greatest r with r² ≤ n. -/
def floorSqrt (n : Nat) : Nat := sqrtFrom (n.log2 / 2 + 1) n 0

/-- The integer nearest to the square root of n (R65). -/
def isqrt (n : Nat) : Nat :=
  let r := floorSqrt n
  if n - r * r > r then r + 1 else r

/-- One coordinate limited to the screen (R66). -/
def clampCoord (v : Int) : Int := max 0 (min 4095 v)

/-- The clamp of R66. -/
def clampPt (p : Pt) : Pt := ⟨clampCoord p.x, clampCoord p.y⟩

/-- The edge indication of R66: the clamp changed a coordinate. -/
def clampEdge (p : Pt) : Bool := clampPt p != p

/-- The tablet mapping before its clamp (R67). -/
def tabletMap (ox oy gx gy rx ry : Nat) : Pt :=
  ⟨roundDiv (((rx : Int) - ox) * gx) 65536, roundDiv (((ry : Int) - oy) * gy) 65536⟩

/-- Wheel accumulation before its clamp (R68). -/
def wheelMove (pos step : Pt) (w : Nat) : Pt := ⟨pos.x + step.x * w, pos.y + step.y * w⟩

/-- Squared distance (R69). -/
def dist2 (p c : Pt) : Nat := ((p.x - c.x) * (p.x - c.x) + (p.y - c.y) * (p.y - c.y)).toNat

/-- The midpoint (R70). -/
def midpoint (p0 p1 : Pt) : Pt := ⟨(p0.x + p1.x + 1) / 2, (p0.y + p1.y + 1) / 2⟩

/-- The quadrant points, east, north, west, south (R71). -/
def quadrants (c : Pt) (r : Nat) : List Pt :=
  [⟨c.x + r, c.y⟩, ⟨c.x, c.y + r⟩, ⟨c.x - r, c.y⟩, ⟨c.x, c.y - r⟩]

/-- P + round(n × v / m) per coordinate (R72, R74, R77, R78). -/
def stepAlong (p v : Pt) (n m : Int) : Pt := ⟨p.x + roundDiv (n * v.x) m, p.y + roundDiv (n * v.y) m⟩

/-- The nearest point on a segment (R72). -/
def nearestOnSegment (p0 p1 c : Pt) : Pt :=
  let v := p1.sub p0
  let m := v.dot v
  let n := (c.sub p0).dot v
  if m = 0 then p0 else if n ≤ 0 then p0 else if n ≥ m then p1 else stepAlong p0 v n m

/-- The nearest point on a circle (R73). -/
def nearestOnCircle (q : Pt) (r : Nat) (c : Pt) : Pt :=
  let l := isqrt (dist2 c q)
  if l = 0 then ⟨q.x + r, q.y⟩ else stepAlong q (c.sub q) r l

/-- The perpendicular foot from a present anchor (R74). -/
def perpendicularFoot (a p0 p1 : Pt) : Option Pt :=
  let v := p1.sub p0
  let m := v.dot v
  let n := (a.sub p0).dot v
  if 0 < m ∧ 0 ≤ n ∧ n ≤ m then some (stepAlong p0 v n m) else none

/-- The grid value of one axis (R75). -/
def gridCoord (g0 p x : Int) : Int :=
  let k := floorDiv (x - g0 + p / 2) p
  if g0 + k * p > 4095 then g0 + (k - 1) * p else if g0 + k * p < 0 then g0 + (k + 1) * p else g0 + k * p

/-- The grid point (R75). -/
def gridPoint (g : GridSettings) (p : Pt) : Pt :=
  ⟨gridCoord g.origin.x g.pitch.x p.x, gridCoord g.origin.y g.pitch.y p.y⟩

/-- The usable directions in index order (R76). -/
def usableDirections (mode : ConstraintMode) (dirs : Vector Pt 16) : List Pt :=
  match mode with
  | .off => []
  | .table => dirs.toList.filter (fun u => u != ⟨0, 0⟩)
  | .ortho => [⟨1, 0⟩, ⟨0, 1⟩, ⟨-1, 0⟩, ⟨0, -1⟩]

/-- Direction u beats direction w for the vector v (R76). -/
def beats (v u w : Pt) : Bool :=
  v.dot u * v.dot u * w.dot w > v.dot w * v.dot w * u.dot u

/-- The winning direction among those that compete; on equality the lower index wins (R76). -/
def winningDirection (v : Pt) (us : List Pt) : Option Pt :=
  (us.filter (fun u => 0 < v.dot u)).foldl
    (fun best u => match best with
      | none => some u
      | some w => if beats v u w then some u else some w) none

/-- The direction constraint: the projected point before its clamp, or none when no direction competes (R76, R77). -/
def constrainPoint (mode : ConstraintMode) (dirs : Vector Pt 16) (a p : Pt) : Option Pt :=
  let v := p.sub a
  (winningDirection v (usableDirections mode dirs)).map fun u => stepAlong a u (v.dot u) (u.dot u)

/-- The line length (R78). -/
def lineLength (s t : Pt) : Nat := isqrt (dist2 t s)

/-- The point along a line of length l > 0 (R78). -/
def pointAlong (s t : Pt) (l k : Nat) : Pt := stepAlong s (t.sub s) k l

/-- The dash intervals drawn on an element of length l: [start, end) with start < end, in increasing j (R78). -/
def dashIntervals (l period onLen phase : Nat) : List (Nat × Nat) :=
  (List.range ((l + phase) / period + 1)).filterMap fun j =>
    let a := max 0 ((j * period : Int) - phase)
    let b := min (l : Int) ((j * period : Int) - phase + onLen)
    if a < b then some (a.toNat, b.toNat) else none

/-- The dash settings call for dashes (R78, R111). -/
def dashesApply (period onLen : Nat) : Bool := 2 ≤ period && 1 ≤ onLen && onLen < period

/-- The band radius (R78). -/
def bandRadius (a e : Pt) : Nat := min 4095 (isqrt (dist2 e a))

end Sys2Proof.Machine
end

