-- ==== Sys2Proof/Machine/Operands.lean ====
section
/-! DEFINITION. The bit layouts of chapter 13: fields of the words the part takes in, argument fields of directives (R161),
stroke record head words, and the packing of the words it supplies. -/

namespace Sys2Proof.Machine

/-- The field of `len` bits whose lowest bit is bit `lo`, unsigned. -/
def bitsOf (w : Word) (lo len : Nat) : Nat := w.toNat / 2 ^ lo % 2 ^ len

/-- The same field in two's complement of its width. -/
def sbitsOf (w : Word) (lo len : Nat) : Int :=
  if bitsOf w lo len < 2 ^ (len - 1) then bitsOf w lo len else (bitsOf w lo len : Int) - 2 ^ len

/-- A word made of fields (value, width, lowest bit); each value is cut to its width and every other bit is 0 (R191). -/
def pack : List (Nat × Nat × Nat) → Word
  | [] => 0
  | (v, width, lo) :: rest => BitVec.ofNat 32 (v % 2 ^ width * 2 ^ lo) + pack rest

/-- The low `width` bits of a value in two's complement. -/
def lowBits (width : Nat) (v : Int) : Nat := (v % 2 ^ width).toNat

/-- Bit 16 of an effective coordinate's 17-bit form: the extension bit of chapter 13. -/
def extBit (v : Int) : Nat := lowBits 17 v / 65536

/-- Limits a value to lo..hi (R165). -/
def clampNat (lo hi v : Nat) : Nat := max lo (min hi v)

/-! ### Directive arguments (R161) -/

/-- Field i, 0..13, unsigned: the upper half of word 1 + i/2 when i is even, the lower half when it is odd. -/
def DirEntry.argU (e : DirEntry) (i : Fin 14) : Nat :=
  let w := e.args[i.val / 2]'(by omega)
  if i.val % 2 = 0 then bitsOf w 16 16 else bitsOf w 0 16

/-- Field i, signed. -/
def DirEntry.argS (e : DirEntry) (i : Fin 14) : Int :=
  let w := e.args[i.val / 2]'(by omega)
  if i.val % 2 = 0 then sbitsOf w 16 16 else sbitsOf w 0 16

/-- The 27 directive kinds, and every other code (R166). -/
inductive DirKind where
  | configure
  | restart
  | resume
  | setResponses
  | clearFaults
  | setWatch
  | freeze
  | thaw
  | setBlink
  | setInput
  | setCursor
  | setButtons
  | setSnap
  | setGrid
  | loadDirections
  | continueDirections
  | setConstraint
  | setAnchor
  | clearAnchor
  | trailAppend
  | trailDrop
  | trailClear
  | setBand
  | setStyle
  | setNotify
  | clearEvents
  | setPeek
  | unknown
deriving DecidableEq, Repr

/-- The directive codes of 13.3. Code 0 is never queued (R160); it counts as unknown here. -/
def kindOfCode (code : BitVec 8) : DirKind :=
  match code.toNat with
  | 1 => .configure
  | 2 => .restart
  | 3 => .resume
  | 4 => .setResponses
  | 5 => .clearFaults
  | 6 => .setWatch
  | 7 => .freeze
  | 8 => .thaw
  | 9 => .setBlink
  | 10 => .setInput
  | 11 => .setCursor
  | 12 => .setButtons
  | 13 => .setSnap
  | 14 => .setGrid
  | 15 => .loadDirections
  | 16 => .continueDirections
  | 17 => .setConstraint
  | 18 => .setAnchor
  | 19 => .clearAnchor
  | 20 => .trailAppend
  | 21 => .trailDrop
  | 22 => .trailClear
  | 23 => .setBand
  | 24 => .setStyle
  | 25 => .setNotify
  | 26 => .clearEvents
  | 27 => .setPeek
  | _ => .unknown

/-- The ten search-bound kinds (R163). -/
def DirKind.searchBound : DirKind → Bool
  | .setSnap | .setGrid | .loadDirections | .continueDirections | .setConstraint
  | .setAnchor | .clearAnchor | .trailAppend | .trailDrop | .trailClear => true
  | .configure | .restart | .resume | .setResponses | .clearFaults | .setWatch | .freeze | .thaw | .setBlink
  | .setInput | .setCursor | .setButtons | .setBand | .setStyle | .setNotify | .clearEvents | .setPeek
  | .unknown => false

/-- The kind of a queued directive. -/
def DirEntry.dirKind (e : DirEntry) : DirKind := kindOfCode e.kind

/-! ### Stroke records (13.1) -/

/-- A head word as the tracker reads it (R2). -/
inductive Head where
  | skip
  | move (p : Pt)
  | draw (p : Pt)
  | circle (centre : Pt)
  | label (n : Nat)
  | entity (attr : Attr)
  | call (target : Addr)
  | ret
  | jump (target : Addr)
  | frame
  | unknown
deriving DecidableEq, Repr

/-- The point of a MOVE, DRAW or CIRCLE head word: x in bits 23..12, y in bits 11..0. -/
def headPoint (w : Word) : Pt := ⟨bitsOf w 12 12, bitsOf w 0 12⟩

/-- The address field of a CALL or JUMP head word: bits 19..0. -/
def headTarget (w : Word) : Addr := BitVec.ofNat 20 (bitsOf w 0 20)

/-- The fields of an ENTITY head word. -/
def headAttr (w : Word) : Attr :=
  ⟨BitVec.ofNat 3 (bitsOf w 24 3), bitsOf w 16 1 == 1, BitVec.ofNat 16 (bitsOf w 0 16)⟩

/-- The kind of a head word stands in bits 31..28; 10..15 are unassigned. Unassigned bits are not read (R190). -/
def decodeHead (w : Word) : Head :=
  match bitsOf w 28 4 with
  | 0 => .skip
  | 1 => .move (headPoint w)
  | 2 => .draw (headPoint w)
  | 3 => .circle (headPoint w)
  | 4 => .label (bitsOf w 0 8)
  | 5 => .entity (headAttr w)
  | 6 => .call (headTarget w)
  | 7 => .ret
  | 8 => .jump (headTarget w)
  | 9 => .frame
  | _ => .unknown

/-- Word 1 of a CIRCLE: the radius in bits 11..0. -/
def circleRadius (w : Word) : Nat := bitsOf w 0 12

/-- Word 1 of a CALL: dx in bits 28..16 and dy in bits 12..0, signed. -/
def callOffset (w : Word) : Pt := ⟨sbitsOf w 16 13, sbitsOf w 0 13⟩

/-- The RETURN word the part supplies (R191). -/
def returnWord : Word := 0x70000000

/-- The words of a composed record (13.1, R191): ENTITY with snap class INERT and entity tag 0 (R118). -/
def Rec.encode : Rec → List Word
  | .entity i => [pack [(5, 4, 28), (i, 3, 24), (1, 1, 16)]]
  | .move p => [pack [(1, 4, 28), (p.x.toNat, 12, 12), (p.y.toNat, 12, 0)]]
  | .draw p => [pack [(2, 4, 28), (p.x.toNat, 12, 12), (p.y.toNat, 12, 0)]]
  | .circle c r => [pack [(3, 4, 28), (c.x.toNat, 12, 12), (c.y.toNat, 12, 0)], pack [(r, 12, 0)]]
  | .ret => [returnWord]

/-- The words of a list of records, numbered from offset 0 (R114). -/
def recWords (l : List Rec) : List Word := l.flatMap Rec.encode

/-- The words of a composed list. -/
def Composed.words (c : Composed) : List Word := recWords c.recs

/-- The length of a composed list in words. -/
def Composed.length (c : Composed) : Nat := c.words.length

/-! ### Sample words (13.2) -/

/-- Raw tablet position of word 0. -/
def sampleRaw (w0 : Word) : Nat × Nat := (bitsOf w0 16 16, bitsOf w0 0 16)

/-- Wheel steps of word 1. -/
def sampleWheel (w1 : Word) : Pt := ⟨sbitsOf w1 24 8, sbitsOf w1 16 8⟩

/-- Buttons of word 1: button b is down when bit b is 1. -/
def sampleButtons (w1 : Word) : BitVec 4 := BitVec.ofNat 4 (bitsOf w1 0 4)

/-- VALID of a status word. -/
def statusValid (w : Word) : Bool := bitsOf w 31 1 == 1

/-- PROXIMITY of a status word. -/
def statusInRange (w : Word) : Bool := bitsOf w 30 1 == 1

/-- SOURCE of a status word: 1 TABLET, 2 WHEELS, any other value no source (R190). -/
def statusSource (w : Word) : Option Source :=
  match bitsOf w 0 2 with
  | 1 => some .tablet
  | 2 => some .wheels
  | _ => none

end Sys2Proof.Machine
end

