-- ==== Sys2Proof/Machine/Flags.lean ====
section
/-! DEFINITION. The event flags and the ATTENTION line (R174, R175), the marks of the code latch, the classes and codes of
faults (12.1), and the responses (R179). -/

namespace Sys2Proof.Machine

/-- The nine event flags (R174), in their bit order (13.4). -/
inductive Event where
  | resultReady
  | commitReady
  | watch0
  | watch1
  | fault
  | stopped
  | proximity
  | refused
  | drained
deriving DecidableEq, Repr

/-- The flag's bit number. -/
def Event.index : Event → Nat
  | .resultReady => 0
  | .commitReady => 1
  | .watch0 => 2
  | .watch1 => 3
  | .fault => 4
  | .stopped => 5
  | .proximity => 6
  | .refused => 7
  | .drained => 8

/-- The flag's bit alone. -/
def Event.bit (e : Event) : BitVec 9 := BitVec.twoPow 9 e.index

/-- Sets a flag; setting a flag that is set leaves it set (R174). -/
def setEvent (e : Event) (s : State) : State :=
  { s with pane := { s.pane with flags := s.pane.flags ||| e.bit } }

/-- Clears the flags whose bits are set in `m` (R172, R176). -/
def clearEventMask (m : BitVec 9) (s : State) : State :=
  { s with pane := { s.pane with flags := s.pane.flags &&& ~~~ m } }

/-- Whether a flag is set. -/
def hasEvent (e : Event) (s : State) : Bool := s.pane.flags.getLsbD e.index

/-- The masked events word (R169). -/
def maskedEvents (s : State) : BitVec 9 := s.pane.flags &&& s.pane.mask

/-- The ATTENTION line (R175): high while an enabled flag is set. -/
def attention (s : State) : Bool := maskedEvents s != 0

/-- The number of a fault code (12.1). -/
def FaultCode.number : FaultCode → Nat
  | .nestOverflow => 11
  | .nestUnderflow => 12
  | .trackLost => 13
  | .unknownRecord => 14
  | .frameAborted => 15
  | .bankCrowded => 21
  | .queueOverrun => 22
  | .queueOverflow => 31
  | .refused => 32
  | .mailboxOrder => 41
  | .pressOverrun => 42
  | .commitFailed => 43
  | .windowOverread => 51
  | .windowEntry => 52

/-- The class of a fault code, by its number in the fault record (13.5). -/
def FaultCode.classNumber : FaultCode → Nat
  | .nestOverflow | .nestUnderflow | .trackLost | .unknownRecord | .frameAborted => 1
  | .bankCrowded | .queueOverrun => 2
  | .queueOverflow | .refused => 3
  | .mailboxOrder | .pressOverrun | .commitFailed => 4
  | .windowOverread | .windowEntry => 5

/-- The bit of a code in the code latch (13.4). -/
def FaultCode.latchIndex : FaultCode → Nat
  | .nestOverflow => 0
  | .nestUnderflow => 1
  | .trackLost => 2
  | .unknownRecord => 3
  | .frameAborted => 4
  | .bankCrowded => 5
  | .queueOverrun => 6
  | .queueOverflow => 7
  | .refused => 8
  | .mailboxOrder => 9
  | .pressOverrun => 10
  | .commitFailed => 11
  | .windowOverread => 12
  | .windowEntry => 13

/-- Whether the response to a code's class is STOP (R179). -/
def Responses.stops (r : Responses) (c : FaultCode) : Bool :=
  match c with
  | .nestOverflow | .nestUnderflow | .trackLost | .unknownRecord | .frameAborted => r.traversal
  | .bankCrowded | .queueOverrun => r.harvest
  | .queueOverflow | .refused => r.directive
  | .mailboxOrder | .pressOverrun | .commitFailed => r.input
  | .windowOverread | .windowEntry => r.window

/-- The number of a refusal reason (Table 10-1). -/
def Reason.number : Reason → Nat
  | .unknownKind => 1
  | .badRegion => 2
  | .wrongSource => 3
  | .indexRange => 4
  | .noContinuation => 5
  | .trailFull => 6
  | .trailEmpty => 7
  | .notStopped => 8
  | .notActive => 9

end Sys2Proof.Machine
end

