-- ==== Sys2Proof/Machine/Ops.lean ====
section
/-! DEFINITION. The operations that several commands share: raising a fault, composer triggers, filing requests, changing the
proximity, promoting a bank, and the emptyings that a stop, a CONFIGURE and a reset make. -/

namespace Sys2Proof.Machine

/-- A block raises a fault: it joins the end of the faults raised and not yet taken (R178; log 6). -/
def raise (code : FaultCode) (detail : BitVec 20) (tag : BitVec 8) (s : State) : State :=
  { s with flt := { s.flt with raised := s.flt.raised ++ [⟨code, detail, tag⟩] } }

/-! ### Banks -/

/-- The bank with a number. -/
def Triplet.get {α : Type} (t : Triplet α) : BankId → α
  | .b0 => t.e0
  | .b1 => t.e1
  | .b2 => t.e2

/-- The triplet with one bank replaced. -/
def Triplet.set {α : Type} (t : Triplet α) (i : BankId) (v : α) : Triplet α :=
  match i with
  | .b0 => { t with e0 := v }
  | .b1 => { t with e1 := v }
  | .b2 => { t with e2 := v }

/-- The same change to all three. -/
def Triplet.map {α : Type} (f : α → α) (t : Triplet α) : Triplet α := ⟨f t.e0, f t.e1, f t.e2⟩

/-- The lowest-numbered bank in a state. -/
def findBank (t : Triplet Bank) (st : BankState) : Option BankId :=
  if t.e0.state = st then some .b0
  else if t.e1.state = st then some .b1
  else if t.e2.state = st then some .b2
  else none

/-- Replaces the banks. -/
def setBanks (t : Triplet Bank) (s : State) : State := { s with hv := { s.hv with banks := t } }

/-- The CURRENT bank, if any. -/
def currentBank (s : State) : Option Bank := (findBank s.hv.banks .current).map s.hv.banks.get

/-! ### The composer's trigger (R116) -/

/-- The inputs of a pass as they stand (R115). A window length of 256 stands in where no region map is held, which does
not happen in ACTIVE (log 17). -/
def passInputs (s : State) : PassInputs where
  cursor := s.cu.pos
  inRange := s.cu.inRange
  resultPoint := s.se.result.point
  resultKind := s.se.result.kind
  resultSeq := s.se.result.seq
  anchor := s.band.anchor.map Anchor.point
  trail := s.band.trail
  shape := s.band.shape
  period := s.band.period
  onLen := s.band.onLen
  phase := s.pat.phase
  markerGate := s.pat.a.out
  cursorGate := s.pat.b.out
  style := s.comp.style
  windowLen := match s.port.config with
    | some m => m.windowLen
    | none => 256

/-- A trigger: in ACTIVE it starts a pass when the composer is QUIET and sets the again flag when it is COMPOSING; in any
other state it does nothing (R116, R117). -/
def trigger (s : State) : State :=
  if s.port.op = .active then
    match s.comp.pass with
    | none => { s with comp := { s.comp with pass := some (passInputs s) } }
    | some _ => { s with comp := { s.comp with again := true } }
  else s

/-! ### Requests (R41 to R44) -/

/-- A MOTION arrives: it is pending afterwards, once, unless the state is not ACTIVE or the proximity is OUT (R42). -/
def fileMotion (s : State) : State :=
  if s.port.op = .active ∧ s.cu.inRange = true then { s with se := { s.se with motion := true } } else s

/-- A PRESS arrives: it removes any pending MOTION and is appended, or with four presses pending it is lost, PRESS OVERRUN
is raised and a MOTION is set pending (R43). Outside ACTIVE it is not filed (R41). -/
def filePress (p : Press) (s : State) : State :=
  if s.port.op = .active then
    if s.se.presses.length < 4 then
      { s with se := { s.se with presses := s.se.presses ++ [p], motion := false } }
    else fileMotion (raise .pressOverrun (p.mask.setWidth 20) 0 s)
  else s

/-- The Search Engine's part of a change of proximity (R44). With no press pending the removal of the MOTION leaves no search to
start. -/
def searchProximity (inRange : Bool) (s : State) : State :=
  if inRange then fileMotion s
  else { s with se := { s.se with
    motion := false
    startOwed := s.se.startOwed && !s.se.presses.isEmpty
    result := { s.se.result with outOfRange := true } } }

/-- Sets the proximity; a change sets PROXIMITY, tells the Search Engine and triggers the composer (R90). -/
def setProximity (inRange : Bool) (s : State) : State :=
  if s.cu.inRange = inRange then s
  else trigger (searchProximity inRange (setEvent .proximity { s with cu := { s.cu with inRange := inRange } }))

/-! ### The start of a search (R45, R46) -/

/-- The inputs of a search, fixed at its start (R46). -/
def searchInputs (r : Request) (s : State) : Search where
  request := r
  cursor := match r with
    | .press p => p.point
    | .motion => s.cu.pos
  bank := findBank s.hv.banks .current
  anchor := s.band.anchor.map Anchor.point
  prio := s.se.snap.prio
  aperture := s.se.snap.aperture
  margin := s.se.snap.margin
  grid := s.se.grid
  dirs := s.se.dirs
  mode := s.se.mode
  identity := s.se.identity
  next := 0
  kept := []
  holdMet := false
  hold := none

/-- A search starts (R45): with the engine IDLE, the state ACTIVE and a request pending, the head request is taken: the oldest
press, or the MOTION when no press is pending. Otherwise nothing happens. -/
def startSearch (s : State) : State :=
  if s.port.op = .active ∧ s.se.search.isNone = true then
    match s.se.presses with
    | p :: rest =>
      { s with se := { s.se with presses := rest, search := some (searchInputs (.press p) s), startOwed := false } }
    | [] =>
      if s.se.motion then
        { s with se := { s.se with motion := false, search := some (searchInputs .motion s), startOwed := false } }
      else s
  else s

/-- A search is due (R45): the engine is IDLE, the state ACTIVE and a request pending. -/
def startDue (s : State) : Bool :=
  s.port.op == .active && s.se.search.isNone && (!s.se.presses.isEmpty || s.se.motion)

/-- The end of a completion's step 8: with a request pending the next search is owed (R29, R45, R58; log 24). -/
def oweStart (s : State) : State := { s with se := { s.se with startOwed := startDue s } }

/-- A search that a completion's step 8 owes starts ahead of the event at hand (R29; log 24). -/
def startOwedSearch (s : State) : State := if s.se.startOwed then startSearch s else s

/-! ### Promotion (R29) -/

/-- Promotes the READY bank, if there is one: it becomes CURRENT, the old CURRENT bank becomes EMPTY, the peek pointer returns
to 0 and an open peek latch closes (R173), and a MOTION is filed. -/
def promote (s : State) : State :=
  match findBank s.hv.banks .ready with
  | none => s
  | some r =>
    let t := match findBank s.hv.banks .current with
      | none => s.hv.banks
      | some c => s.hv.banks.set c Bank.released
    let s := setBanks (t.set r { t.get r with state := .current }) s
    fileMotion { s with pane := { s.pane with peek := 0, peekLatch := none } }

/-! ### What a stop, a CONFIGURE and the resets clear -/

/-- The search in flight is abandoned and the request list emptied (R60). -/
def abandonSearch (s : State) : State :=
  { s with se := { s.se with presses := [], motion := false, search := none, startOwed := false } }

/-- The harvest queue is emptied, every bank returns to EMPTY, the last-endpoint register is cleared (R40). -/
def emptyHarvest (s : State) : State := { s with hv := Harvester.emptied }

/-- Both lists become the empty list, a pass is abandoned, the again flag and window entered are cleared (R117). -/
def discardLists (s : State) : State :=
  { s with comp := { s.comp with
      pass := none, again := false, staged := Composed.emptyList, serving := Composed.emptyList, entered := false } }

/-- The tracker is put in a state by a change of the operating state (R12). -/
def restartTracker (st : TrackState) (s : State) : State :=
  { s with trk := { s.trk with state := st, record := none, calls := [], frameOpen := false, inWindow := false } }

/-- The frozen condition (R142). -/
def setFrozen (f : Bool) (s : State) : State := { s with pat := { s.pat with frozen := f } }

/-- The operating state. -/
def setOp (op : OpState) (s : State) : State := { s with port := { s.port with op := op } }

/-- Replaces the tracker. -/
def setTrk (t : Tracker) (s : State) : State := { s with trk := t }

/-- A raised fault is recorded (R178): sequence, last-fault record, code latch, FAULT. -/
def recordFault (f : Raised) (s : State) : State :=
  setEvent .fault { s with flt := { s.flt with
    seq := s.flt.seq + 1
    last := some ⟨f.code, f.detail, f.tag, s.trk.frames.setWidth 16, s.flt.seq + 1⟩
    latch := s.flt.latch ||| BitVec.twoPow 14 f.code.latchIndex } }

/-! ### Regions (R147, R149, R153, R154) -/

/-- The strap block base as a number, absent for strap value 63 (R147). -/
def strapBase (strap : BitVec 6) : Option Nat := if strap = 63#6 then none else some (strap.toNat * 0x4000)

/-- The offset of an address in the strap block, 0..191, if it lies there. -/
def strapOffset (strap : BitVec 6) (a : Addr) : Option Nat :=
  (strapBase strap).bind fun b => if b ≤ a.toNat ∧ a.toNat < b + 192 then some (a.toNat - b) else none

/-- The number of the pane word at an address, if it lies in the status pane. -/
def paneIndex (strap : BitVec 6) (a : Addr) : Option Nat :=
  (strapOffset strap a).bind fun o => if 128 ≤ o then some (o - 128) else none

/-- The offset of an address in the preview window, if it lies there. -/
def RegionMap.windowOffset (m : RegionMap) (a : Addr) : Option Nat :=
  if m.windowBase.toNat ≤ a.toNat ∧ a.toNat < m.windowBase.toNat + m.windowLen
  then some (a.toNat - m.windowBase.toNat) else none

/-- The record and the word of an address in the mailbox, if it lies there (R83). -/
def RegionMap.mailboxPlace (m : RegionMap) (a : Addr) : Option (Nat × Nat) :=
  if m.mailboxBase.toNat ≤ a.toNat ∧ a.toNat < m.mailboxBase.toNat + 4 * m.records
  then some ((a.toNat - m.mailboxBase.toNat) / 4, (a.toNat - m.mailboxBase.toNat) % 4) else none

/-- The offset of an address in the preview window of the configuration in force, if it lies there. -/
def windowOffset (s : State) (a : Addr) : Option Nat := s.port.config.bind fun m => m.windowOffset a

/-- Two runs of addresses share at least one. -/
def overlaps (a la b lb : Nat) : Bool := a < b + lb && b < a + la

/-- An address lies in a run. -/
def lies (x a la : Nat) : Bool := a ≤ x && x < a + la

/-- The map conflicts with a strap block: the window or the mailbox overlaps it, or the list base lies in it. -/
def RegionMap.hitsStrap (m : RegionMap) (strap : BitVec 6) : Bool :=
  match strapBase strap with
  | none => false
  | some b => overlaps m.windowBase.toNat m.windowLen b 192 || overlaps m.mailboxBase.toNat (4 * m.records) b 192
      || lies m.listBase.toNat b 192

/-- A new map can be placed (R154). -/
def RegionMap.placeable (m : RegionMap) (strap : BitVec 6) : Bool :=
  !m.hitsStrap strap && !overlaps m.windowBase.toNat m.windowLen m.mailboxBase.toNat (4 * m.records)
    && !lies m.listBase.toNat m.windowBase.toNat m.windowLen && !lies m.listBase.toNat m.mailboxBase.toNat (4 * m.records)
    && m.windowBase.toNat + m.windowLen ≤ 0x100000 && m.mailboxBase.toNat + 4 * m.records ≤ 0x100000

end Sys2Proof.Machine
end

