-- ==== Sys2Proof/Machine/BandUnit.lean ====
section
/-! DEFINITION. Anchor, trail and band (chapter 6): the press actions and the commit record, and the effects of the anchor,
trail and band directives. -/

namespace Sys2Proof.Machine

/-- Replaces the Band Unit. -/
def setBandUnit (b : Band) (s : State) : State := { s with band := b }

/-- Sets the anchor and its link (R98). -/
def Band.withAnchor (p : Pt) (linked : Bool) (b : Band) : Band := { b with anchor := some ⟨p, linked⟩ }

/-- Appends a vertex and links the anchor to it (R101, R106). -/
def Band.append (p : Pt) (b : Band) : Band := { b with trail := b.trail ++ [p], anchor := some ⟨p, true⟩ }

/-- The anchor and trail after one press action with result point E (R101, R102). -/
def Band.act (a : PressAction) (p : Pt) (b : Band) : Band :=
  match a with
  | .commit => if b.trail.length < 32 then b.append p else b
  | .anchor => b.withAnchor p false
  | .clear => { b with trail := [], anchor := none }

/-- The outcome is TRAIL FULL (R101). -/
def Band.refuses (a : PressAction) (b : Band) : Bool :=
  match a with
  | .commit => 32 ≤ b.trail.length
  | .anchor => false
  | .clear => false

/-- The commit record that one press action writes (R103). -/
def commitAfter (a : PressAction) (full : Bool) (button : Fin 4) (r : Result) (c : CommitRecord) : CommitRecord where
  seq := c.seq + 1
  action := a
  full := full
  button := button
  point := r.point
  kind := r.kind
  source := r.source
  resultSeq := r.seq

/-- One press action (R100 to R104): the anchor and trail, the commit record, COMMIT READY, and COMMIT FAILED for a COMMIT that
finds the trail full. -/
def pressAction (button : Fin 4) (a : PressAction) (r : Result) (s : State) : State :=
  let full := s.band.refuses a
  let s := setEvent .commitReady (setBandUnit { s.band.act a r.point with
    commit := commitAfter a full button r s.band.commit } s)
  if full then raise .commitFailed (BitVec.ofNat 20 button.val) 0 s else s

/-- The action of one button of a mask, from the button map as it stands; NONE is passed over (R100). -/
def pressButton (mask : BitVec 4) (r : Result) (s : State) (b : Fin 4) : State :=
  if mask.getLsbD b.val then
    match s.cu.map[b] with
    | none => s
    | some a => pressAction b a r s
  else s

/-- The actions of a press, buttons 0, 1, 2, 3 in order (R100). -/
def pressActions (mask : BitVec 4) (r : Result) (s : State) : State :=
  [0, 1, 2, 3].foldl (pressButton mask r) s

/-! ### Directives -/

/-- The clamped point of two signed fields. -/
def argPoint (e : DirEntry) : Pt := clampPt ⟨e.argS 0, e.argS 1⟩

/-- SET ANCHOR (R105). -/
def applySetAnchor (e : DirEntry) (s : State) : State × Option Reason :=
  (trigger (setBandUnit (s.band.withAnchor (argPoint e) false) s), none)

/-- CLEAR ANCHOR (R105). -/
def applyClearAnchor (_ : DirEntry) (s : State) : State × Option Reason :=
  (trigger (setBandUnit { s.band with anchor := none } s), none)

/-- TRAIL APPEND (R106). -/
def applyTrailAppend (e : DirEntry) (s : State) : State × Option Reason :=
  if s.band.trail.length < 32 then (trigger (setBandUnit (s.band.append (argPoint e)) s), none)
  else (s, some .trailFull)

/-- The Band Unit after a TRAIL DROP of a non-empty trail (R107). -/
def Band.dropNewest (b : Band) : Band :=
  { b with
    trail := b.trail.dropLast
    anchor := b.trail.dropLast.getLast?.map fun p => ⟨p, true⟩ }

/-- TRAIL DROP (R107). -/
def applyTrailDrop (_ : DirEntry) (s : State) : State × Option Reason :=
  if s.band.trail.isEmpty then (s, some .trailEmpty) else (trigger (setBandUnit s.band.dropNewest s), none)

/-- The anchor after a TRAIL CLEAR: a LINKED one goes, a FREE one stays (R108). -/
def freeAnchor (a : Option Anchor) : Option Anchor := a.filter fun x => !x.linked

/-- TRAIL CLEAR (R108). -/
def applyTrailClear (_ : DirEntry) (s : State) : State × Option Reason :=
  (trigger (setBandUnit { s.band with trail := [], anchor := freeAnchor s.band.anchor } s), none)

/-- Shape codes; above 4 is clamped to 4 (R112). -/
def shapeOf : Nat → BandShape
  | 0 => .none
  | 1 => .line
  | 2 => .box
  | 3 => .circle
  | _ => .poly

/-- The dash period of a field: 0 stays 0, anything else is clamped to 2..255 (R112). -/
def periodOf (v : Nat) : Nat := if v = 0 then 0 else clampNat 2 255 v

/-- SET BAND (R112): the settings, φ to P − 1 or 0 (FROZEN or not), and a trigger. -/
def applySetBand (e : DirEntry) (s : State) : State × Option Reason :=
  let s' := setBandUnit { s.band with
    shape := shapeOf (e.argU 0)
    period := periodOf (e.argU 1)
    onLen := clampNat 0 255 (e.argU 2)
    march := e.argU 3 != 0 } s
  (trigger { s' with pat := { s'.pat with phase := periodOf (e.argU 1) - 1 } }, none)

end Sys2Proof.Machine
end

