-- ==== Sys2Proof/Machine/Compose.lean ====
section
/-! DEFINITION. Preview window composition (chapter 7): the parts of a list, shedding, the end of a pass, the latch and the
answers to window reads, and SET STYLE. -/

namespace Sys2Proof.Machine

/-- The pen point after a record (R118): MOVE, DRAW and CIRCLE set it, ENTITY and RETURN leave it. -/
def penAfterRec (pen : Option Pt) : Rec → Option Pt
  | .move p => some p
  | .draw p => some p
  | .circle c _ => some c
  | .entity _ => pen
  | .ret => pen

/-- The pen point after a list of records. -/
def penAfter (pen : Option Pt) (l : List Rec) : Option Pt := l.foldl penAfterRec pen

/-- A stroke through glyph points, each clamped by itself: MOVE to the first, DRAW to the others (R119, R120). -/
def stroke : List Pt → List Rec
  | [] => []
  | p :: rest => .move (clampPt p) :: rest.map (fun q => .draw (clampPt q))

/-! ### The cursor part and the marker part -/

/-- The cursor glyph (R119). -/
def cursorGlyph (g : Glyph) (arm : Int) (p : Pt) : List Rec :=
  match g with
  | .cross => stroke [⟨p.x - arm, p.y⟩, ⟨p.x + arm, p.y⟩] ++ stroke [⟨p.x, p.y - arm⟩, ⟨p.x, p.y + arm⟩]
  | .full => stroke [⟨0, p.y⟩, ⟨4095, p.y⟩] ++ stroke [⟨p.x, 0⟩, ⟨p.x, 4095⟩]
  | .box => stroke [⟨p.x - arm, p.y - arm⟩, ⟨p.x + arm, p.y - arm⟩, ⟨p.x + arm, p.y + arm⟩, ⟨p.x - arm, p.y + arm⟩,
      ⟨p.x - arm, p.y - arm⟩]

/-- The cursor part (R118, R119). -/
def cursorPart (i : PassInputs) : List Rec :=
  if i.inRange && i.cursorGate then
    .entity i.style.cursorIntensity :: cursorGlyph i.style.glyph i.style.arm i.cursor
  else []

/-- The marker glyph of a result kind, empty for the kinds without one (R120). -/
def markerGlyph (k : ResultKind) (s : Nat) (p : Pt) : List Rec :=
  match k with
  | .none => []
  | .constrained => []
  | .free => []
  | .object .endpoint => stroke [⟨p.x - s, p.y - s⟩, ⟨p.x + s, p.y - s⟩, ⟨p.x + s, p.y + s⟩, ⟨p.x - s, p.y + s⟩,
      ⟨p.x - s, p.y - s⟩]
  | .object .midpoint => stroke [⟨p.x - s, p.y - s⟩, ⟨p.x + s, p.y - s⟩, ⟨p.x, p.y + s⟩, ⟨p.x - s, p.y - s⟩]
  | .object .centre => [.circle p s]
  | .object .quadrant => stroke [⟨p.x + s, p.y⟩, ⟨p.x, p.y + s⟩, ⟨p.x - s, p.y⟩, ⟨p.x, p.y - s⟩, ⟨p.x + s, p.y⟩]
  | .object .nearest => stroke [⟨p.x - s, p.y + s⟩, ⟨p.x + s, p.y + s⟩, ⟨p.x - s, p.y - s⟩, ⟨p.x + s, p.y - s⟩,
      ⟨p.x - s, p.y + s⟩]
  | .object .perpendicular => stroke [⟨p.x - s, p.y + s⟩, ⟨p.x - s, p.y - s⟩, ⟨p.x + s, p.y - s⟩]
  | .grid => stroke [⟨p.x - s, p.y⟩, ⟨p.x + s, p.y⟩] ++ stroke [⟨p.x, p.y - s⟩, ⟨p.x, p.y + s⟩]

/-- A part with its ENTITY, or nothing when it contributes no record (R118). -/
def withEntity (intensity : Nat) (l : List Rec) : List Rec :=
  match l with
  | [] => []
  | r :: rest => .entity intensity :: r :: rest

/-- The marker part (R118, R120). -/
def markerPart (i : PassInputs) : List Rec :=
  if i.markerGate then withEntity i.style.markerIntensity (markerGlyph i.resultKind i.style.markerHalf i.resultPoint)
  else []

/-! ### The band part -/

/-- A straight element (R109). -/
structure Element where
  src : Pt
  dst : Pt
deriving DecidableEq, Repr

/-- The dashes of an element (R123). -/
def elementDashes (i : PassInputs) (e : Element) : List (Nat × Nat) :=
  dashIntervals (lineLength e.src e.dst) i.period i.onLen i.phase

/-- The element has more than 64 drawn dashes (R124). -/
def elementCapped (i : PassInputs) (e : Element) : Bool :=
  dashesApply i.period i.onLen && 0 < lineLength e.src e.dst && 64 < (elementDashes i e).length

/-- The element is dashed: the settings call for dashes and it is not capped (R123, R124). -/
def elementDashed (i : PassInputs) (e : Element) : Bool := dashesApply i.period i.onLen && !elementCapped i e

/-- A solid straight element (R121). -/
def solidRecs (pen : Option Pt) (e : Element) : List Rec :=
  if pen = some e.src then [.draw e.dst] else [.move e.src, .draw e.dst]

/-- A dashed straight element (R123). -/
def dashedRecs (i : PassInputs) (e : Element) : List Rec :=
  if lineLength e.src e.dst = 0 then [.move e.src, .draw e.src]
  else (elementDashes i e).flatMap fun d =>
    [.move (pointAlong e.src e.dst (lineLength e.src e.dst) d.1), .draw (pointAlong e.src e.dst (lineLength e.src e.dst) d.2)]

/-- One element in the layout; `solid` is shedding step 1 (R125). -/
def elementRecs (i : PassInputs) (solid : Bool) (pen : Option Pt) (e : Element) : List Rec :=
  if !solid && elementDashed i e then dashedRecs i e else solidRecs pen e

/-- Elements in order, each from the pen point the ones before it leave. -/
def elementsRecs (i : PassInputs) (solid : Bool) (pen : Option Pt) : List Element → List Rec
  | [] => []
  | e :: rest => elementRecs i solid pen e ++ elementsRecs i solid (penAfter pen (elementRecs i solid pen e)) rest

/-- The straight live elements of a shape (R109, R110): none while the anchor is absent. -/
def liveElements (i : PassInputs) : List Element :=
  match i.anchor with
  | none => []
  | some a =>
    let e := i.resultPoint
    match i.shape with
    | .none => []
    | .line => [⟨a, e⟩]
    | .box => [⟨a, ⟨e.x, a.y⟩⟩, ⟨⟨e.x, a.y⟩, e⟩, ⟨e, ⟨a.x, e.y⟩⟩, ⟨⟨a.x, e.y⟩, a⟩]
    | .circle => []
    | .poly => [⟨i.trail.getLast?.getD a, e⟩]

/-- The trail chain with `drop` of its oldest vertices left out (R122). A lone vertex gets a DRAW of its own unless a solid
live element follows. -/
def chainRecs (i : PassInputs) (solid : Bool) (drop : Nat) : List Rec :=
  match i.trail.drop drop with
  | [] => []
  | [v] => if (liveElements i).any (fun e => solid || !elementDashed i e) then [.move v] else [.move v, .draw v]
  | v :: w :: rest => .move v :: .draw w :: rest.map .draw

/-- The band's records (R122). -/
def bandRecs (i : PassInputs) (solid : Bool) (drop : Nat) (pen : Option Pt) : List Rec :=
  match i.shape with
  | .none => []
  | .line => elementsRecs i solid pen (liveElements i)
  | .box => elementsRecs i solid pen (liveElements i)
  | .circle =>
    match i.anchor with
    | none => []
    | some a => if bandRadius a i.resultPoint = 0 then [] else [.circle a (bandRadius a i.resultPoint)]
  | .poly =>
    let chain := chainRecs i solid drop
    chain ++ elementsRecs i solid (penAfter pen chain) (liveElements i)

/-- The band part (R118). -/
def bandPart (i : PassInputs) (solid : Bool) (drop : Nat) (pen : Option Pt) : List Rec :=
  withEntity i.style.bandIntensity (bandRecs i solid drop pen)

/-! ### The list and its budget -/

/-- How a list is laid out: dashes made solid, vertices left out, marker and band kept or removed (R125). -/
structure Layout where
  solid : Bool
  drop : Nat
  marker : Bool
  band : Bool
deriving DecidableEq, Repr

/-- The list of a layout: cursor part, marker part, band part, RETURN (R118). -/
def layoutRecs (i : PassInputs) (l : Layout) : List Rec :=
  let head := cursorPart i ++ (if l.marker then markerPart i else [])
  head ++ (if l.band then bandPart i l.solid l.drop (penAfter none head) else []) ++ [.ret]

/-- The list of a layout fits the window. -/
def fits (i : PassInputs) (l : Layout) : Bool := (recWords (layoutRecs i l)).length ≤ i.windowLen

/-- Step 1 (R125): every dashed element becomes solid. -/
def shedDashes (i : PassInputs) : Bool := (liveElements i).any (elementDashed i)

/-- Step 2 (R125): the number of oldest vertices left out; 0 when the step is passed over. -/
def shedVertices (i : PassInputs) : Nat :=
  if i.shape = .poly ∧ 2 ≤ i.trail.length then
    ((List.range (i.trail.length - 1)).find? (fun n => fits i ⟨true, n + 1, true, true⟩)).elim (i.trail.length - 1) (· + 1)
  else 0

/-- The marker part is present to be removed (R125, step 3). -/
def hasMarker (i : PassInputs) : Bool := !(markerPart i).isEmpty

/-- The band part is present to be removed, as it stands after the steps before (R125, step 4). -/
def hasBand (i : PassInputs) (drop : Nat) : Bool := !(bandRecs i true drop none).isEmpty

/-- An element of the band is capped (R124). -/
def anyCapped (i : PassInputs) : Bool := (liveElements i).any (elementCapped i)

/-- No part is composed: the cursor is not visible, no marker is called for with its gate on, and the band contributes no record
(R118). Shedding is no part of the test: it takes the last part of no list that a window can hold (log 23). -/
def noPart (i : PassInputs) : Bool := layoutRecs i ⟨false, 0, true, true⟩ = [.ret]

/-- The list that a pass builds from its inputs (R118 to R126). The list with no part composed is the empty list, with every flag
clear, shed count 0 and result sequence 0 (R114, R118). -/
def composeList (i : PassInputs) : Composed :=
  let done (l : Layout) (dash trail marker band : Bool) : Composed :=
    ⟨layoutRecs i l, anyCapped i, dash, trail, marker, band, l.drop, i.resultSeq⟩
  if noPart i then Composed.emptyList
  else if fits i ⟨false, 0, true, true⟩ then done ⟨false, 0, true, true⟩ false false false false
  else
    let dash := shedDashes i
    if fits i ⟨true, 0, true, true⟩ then done ⟨true, 0, true, true⟩ dash false false false
    else
      let n := shedVertices i
      let trail := 0 < n
      if fits i ⟨true, n, true, true⟩ then done ⟨true, n, true, true⟩ dash trail false false
      else if fits i ⟨true, n, false, true⟩ then done ⟨true, n, false, true⟩ dash trail (hasMarker i) false
      else done ⟨true, n, false, false⟩ dash trail (hasMarker i) (hasBand i n)

/-- The end of a pass (R115, R116): its list becomes the staged list, and with the again flag set a new pass begins at once. -/
def endPass (i : PassInputs) (s : State) : State :=
  let s := { s with comp := { s.comp with staged := composeList i } }
  if s.comp.again then { s with comp := { s.comp with again := false, pass := some (passInputs s) } }
  else { s with comp := { s.comp with pass := none } }

/-- PASS_END (R115). In QUIET there is no pass to end (log 4). -/
def execPassEnd (s : State) : Host.Outcome State Fault Refusal :=
  .next <| match s.comp.pass with
    | none => s
    | some i => endPass i s

/-! ### Serving (R127 to R130) -/

/-- Word k of a list, or a RETURN at or above its length. -/
def Composed.wordOr (c : Composed) (k : Nat) : Word := c.words[k]?.getD returnWord

/-- The latch of a STROKE read at offset 0 (R127): withheld while FROZEN; window entered is set in either case. -/
def latchWindow (s : State) : State :=
  { s with comp := { s.comp with
      serving := if s.pat.frozen then s.comp.serving else s.comp.staged, entered := true } }

/-- A STROKE read at offset k of the window in ACTIVE: the state afterwards and the answer (R127 to R130). -/
def strokeWindow (k : Nat) (s : State) : State × Word :=
  if k = 0 ∨ s.comp.entered = true then
    let s := if k = 0 then latchWindow s else s
    if k < s.comp.serving.length then (s, s.comp.serving.wordOr k)
    else (raise .windowOverread (BitVec.ofNat 20 k) 0 s, returnWord)
  else
    (raise .windowEntry (BitVec.ofNat 20 k) 0 { s with comp := { s.comp with entered := true } },
      s.comp.serving.wordOr k)

/-- A STROKE read outside the window clears window entered (R128, R150). -/
def leaveWindow (s : State) : State := { s with comp := { s.comp with entered := false } }

/-! ### Style (R132) -/

/-- Glyph codes; above 2 is clamped to 2. -/
def glyphOf : Nat → Glyph
  | 0 => .cross
  | 1 => .full
  | _ => .box

/-- SET STYLE (R132): always accepted, and triggers the composer. -/
def applySetStyle (e : DirEntry) (s : State) : State × Option Reason :=
  (trigger { s with comp := { s.comp with style :=
    ⟨glyphOf (e.argU 0), clampNat 1 1024 (e.argU 1), clampNat 2 64 (e.argU 2), clampNat 0 7 (e.argU 3),
      clampNat 0 7 (e.argU 4), clampNat 0 7 (e.argU 5)⟩ } }, none)

end Sys2Proof.Machine
end

