-- ==== Sys2Proof/Machine/Cursor.lean ====
section
/-! DEFINITION. Cursor input (chapter 5): mailbox writes, samples, press edges, and the effects of SET INPUT, SET CURSOR and SET
BUTTONS. -/

namespace Sys2Proof.Machine

/-- Replaces the Cursor Unit. -/
def setCu (c : CursorUnit) (s : State) : State := { s with cu := c }

/-- A write to word 0 or 1 of a ring record (R83). -/
def captureWord (record : Nat) (second : Bool) (w : Word) (c : CursorUnit) : CursorUnit :=
  if h : record < 32 then
    { c with capture := c.capture.set record (if second then (c.capture[record].1, w) else (w, c.capture[record].2)) }
  else c

/-- The captured words of a ring record (R83). -/
def CursorUnit.captured (c : CursorUnit) (record : Nat) : Word × Word := c.capture[record]?.getD (0, 0)

/-- The ring order check (R85). -/
def ringCheck (records record : Nat) (s : State) : State :=
  let s := if record = s.cu.ring then s else raise .mailboxOrder (BitVec.ofNat 20 record) 0 s
  setCu { s.cu with ring := (record + 1) % records } s

/-- The sample's source is the selected one (R86). -/
def sourceMatches (selected : Source) (given : Option Source) : Bool :=
  match selected, given with
  | .tablet, some .tablet => true
  | .wheels, some .wheels => true
  | _, _ => false

/-- Moves the cursor to a point, clamped, with its EDGE (R66, R87, R89). -/
def moveCursor (p : Pt) (s : State) : State := setCu { s.cu with pos := clampPt p, edge := clampEdge p } s

/-- The buttons whose action is not NONE (R91). -/
def mappedButtons (m : Vector (Option PressAction) 4) : BitVec 4 :=
  BitVec.ofNat 4 (m[0].isSome.toNat + 2 * m[1].isSome.toNat + 4 * m[2].isSome.toNat + 8 * m[3].isSome.toNat)

/-- The press mask of a sample in proximity: buttons down now, up before, and mapped (R91). -/
def pressMask (c : CursorUnit) (buttons : BitVec 4) : BitVec 4 := buttons &&& ~~~ c.prev &&& mappedButtons c.map

/-- The previous buttons become the sample's (R91). -/
def setPrev (buttons : BitVec 4) (s : State) : State := setCu { s.cu with prev := buttons } s

/-- Steps 3 and 4 of an accepted TABLET sample in proximity (R87, R91). -/
def tabletIn (w0 : Word) (s : State) : State :=
  let s := setProximity true s
  moveCursor (tabletMap s.cu.ox s.cu.oy s.cu.gx s.cu.gy (sampleRaw w0).1 (sampleRaw w0).2) s

/-- Step 3 of an accepted TABLET sample out of proximity (R88). -/
def tabletOut (s : State) : State := setPrev 0 (setProximity false s)

/-- Step 3 of an accepted WHEELS sample (R89). -/
def wheelsIn (w1 : Word) (s : State) : State :=
  setProximity true (moveCursor (wheelMove s.cu.pos (sampleWheel w1) s.cu.wheel) s)

/-- Step 5 (R92): in ACTIVE a MOTION when the position differs from `before` and a PRESS when the mask holds a button; a
change of the position triggers the composer. -/
def fileSample (before : Pt) (mask : BitVec 4) (s : State) : State :=
  let moved := s.cu.pos != before
  let s := if moved then fileMotion s else s
  let s := if mask != 0 then filePress ⟨s.cu.pos, mask⟩ s else s
  if moved then trigger s else s

/-- An accepted sample in proximity: press edges, then requests, from the state before the sample (R91, R92). -/
def finishSample (before : Pt) (buttons : BitVec 4) (s : State) : State :=
  let mask := pressMask s.cu buttons
  fileSample before mask (setPrev buttons s)

/-- An accepted sample (R84, steps 3 to 5). -/
def acceptSample (words : Word × Word) (status : Word) (s : State) : State :=
  match s.cu.source with
  | .tablet =>
    if statusInRange status then finishSample s.cu.pos (sampleButtons words.2) (tabletIn words.1 s)
    else fileSample s.cu.pos 0 (tabletOut s)
  | .wheels => finishSample s.cu.pos (sampleButtons words.2) (wheelsIn words.2 s)
  | .none => s
  | .directed => s

/-- A status write with VALID set takes a sample (R84). R85 lets the stop that a MAILBOX ORDER may call for come before or after the
remaining steps of the sample. The model finishes the sample first, in the state it arrived in, and the fault waits for
FAULT_TAKEN: a sample in ACTIVE files its requests, and a fifth press raises PRESS OVERRUN, before the part can enter BYPASS. That
order is the model's choice (log 26). -/
def takeSample (records record : Nat) (status : Word) (s : State) : State :=
  let s := ringCheck records record s
  if sourceMatches s.cu.source (statusSource status) then acceptSample (s.cu.captured record) status s else s

/-- A write inside the mailbox, by the word it addresses (R83). -/
def mailboxWrite (records record word : Nat) (w : Word) (s : State) : State :=
  match word with
  | 0 => setCu (captureWord record false w s.cu) s
  | 1 => setCu (captureWord record true w s.cu) s
  | 3 => if statusValid w then takeSample records record w s else s
  | _ => s

/-! ### Directives (R94 to R96) -/

/-- Button action codes; above 3 is clamped to 3 (R94). -/
def actionOf : Nat → Option PressAction
  | 0 => none
  | 1 => some .commit
  | 2 => some .anchor
  | _ => some .clear

/-- SET BUTTONS (R94). -/
def applySetButtons (e : DirEntry) (s : State) : State × Option Reason :=
  (setCu { s.cu with
    map := #v[actionOf (e.argU 0), actionOf (e.argU 1), actionOf (e.argU 2), actionOf (e.argU 3)] } s, none)

/-- Source codes; above 3 is clamped to 3 (R95). -/
def sourceOf : Nat → Source
  | 0 => .none
  | 1 => .tablet
  | 2 => .wheels
  | _ => .directed

/-- The proximity a new source starts with (R95). -/
def Source.startsIn : Source → Bool
  | .wheels => true
  | .directed => true
  | .tablet => false
  | .none => false

/-- SET INPUT (R95): the settings, and when the source changes, the release of the buttons and the proximity. -/
def applySetInput (e : DirEntry) (s : State) : State × Option Reason :=
  let new := sourceOf (e.argU 0)
  let s' := setCu { s.cu with
    source := new
    ox := e.argU 1
    oy := e.argU 2
    gx := clampNat 1 65535 (e.argU 3)
    gy := clampNat 1 65535 (e.argU 4)
    wheel := clampNat 1 16 (e.argU 5) } s
  (if new = s.cu.source then s' else setProximity new.startsIn (setPrev 0 s'), none)

/-- The presses of a SET CURSOR: one per mapped button of the mask, in the order 0, 1, 2, 3 (R96). -/
def cursorPresses (m : Vector (Option PressAction) 4) (mask : BitVec 4) (p : Pt) : List Press :=
  ([0, 1, 2, 3].filter (fun b => (mask &&& mappedButtons m).getLsbD b)).map fun b => ⟨p, BitVec.twoPow 4 b⟩

/-- Files presses one after another (R96). -/
def filePresses (l : List Press) (s : State) : State := l.foldl (fun s p => filePress p s) s

/-- SET CURSOR (R96). -/
def applySetCursor (e : DirEntry) (s : State) : State × Option Reason :=
  if s.cu.source = .directed then
    let before := s.cu.pos
    let s := setProximity true (moveCursor ⟨e.argS 0, e.argS 1⟩ s)
    let presses := cursorPresses s.cu.map (BitVec.ofNat 4 (e.argU 2)) s.cu.pos
    let s := match presses with
      | [] => fileMotion s
      | _ :: _ => filePresses presses s
    (if s.cu.pos = before then s else trigger s, none)
  else (s, some .wrongSource)

end Sys2Proof.Machine
end

