-- ==== Sys2Proof/Machine/Pane.lean ====
section
/-! DEFINITION. The status pane (chapter 11) and the word layouts of 13.4 and 13.5: every pane word from live state, the read
latches, and the effects of SET NOTIFY, CLEAR EVENTS and SET PEEK. -/

namespace Sys2Proof.Machine

/-! ### Codes (13.4, 13.5) -/

/-- Operating state code. -/
def OpState.code : OpState → Nat
  | .disabled => 0
  | .transparent => 1
  | .passive => 2
  | .active => 3
  | .bypass => 4

/-- Reset cause code. -/
def ResetCause.code : ResetCause → Nat
  | .power => 1
  | .pin => 2
  | .restart => 3

/-- Tracker state code. -/
def TrackState.code : TrackState → Nat
  | .halted => 0
  | .waiting => 1
  | .tracking => 2
  | .lost => 3

/-- Source code. -/
def Source.code : Source → Nat
  | .none => 0
  | .tablet => 1
  | .wheels => 2
  | .directed => 3

/-- Result kind code. -/
def ResultKind.code : ResultKind → Nat
  | .none => 0
  | .object .endpoint => 1
  | .object .midpoint => 2
  | .object .centre => 3
  | .object .quadrant => 4
  | .object .nearest => 5
  | .object .perpendicular => 6
  | .grid => 7
  | .constrained => 8
  | .free => 9

/-- Press action code. -/
def PressAction.code : PressAction → Nat
  | .commit => 0
  | .anchor => 1
  | .clear => 2

/-- Snap kind code of a POINT entry. -/
def PointKind.code : PointKind → Nat
  | .endpoint => 0
  | .midpoint => 1
  | .centre => 2
  | .quadrant => 3

/-- Bank number code: 3 is NONE. -/
def bankCode : Option BankId → Nat
  | some .b0 => 0
  | some .b1 => 1
  | some .b2 => 2
  | none => 3

/-- A flag as one bit. -/
def bit (b : Bool) : Nat := if b then 1 else 0

/-- A screen point word: x in bits 27..16, y in bits 11..0. -/
def pointWord (p : Pt) : Word := pack [(p.x.toNat, 12, 16), (p.y.toNat, 12, 0)]

/-! ### Records (13.5) -/

/-- The 8 words of a result record. -/
def Result.words (r : Result) : List Word :=
  [ pack [(r.seq.toNat, 16, 16), (bit r.press, 1, 15), (r.kind.code, 4, 8), (bit r.stale, 1, 7), (bit r.withdrawn, 1, 6),
      (bit r.edge, 1, 5), (bit r.held, 1, 4), (bit r.gridded, 1, 3), (bit r.unconstrained, 1, 2), (bit r.outOfRange, 1, 1),
      (bit r.source.isNone, 1, 0)],
    pointWord r.point,
    pointWord r.cursor,
    pack [(r.d2, 32, 0)],
    pack [((r.source.map fun x => x.1.toNat).getD 0, 20, 0)],
    pack [((r.source.map fun x => x.2.toNat).getD 0, 16, 0)],
    r.bankFrame,
    pack [(r.seq.toNat, 16, 0)] ]

/-- The 4 words of a commit record. -/
def CommitRecord.words (c : CommitRecord) : List Word :=
  [ pack [(c.seq.toNat, 16, 16), (c.action.code, 2, 12), (bit c.full, 1, 11), (bit c.source.isNone, 1, 10),
      (c.button.val, 2, 8), (c.kind.code, 4, 0)],
    pointWord c.point,
    pack [((c.source.map fun x => x.1.toNat).getD 0, 20, 0)],
    pack [((c.source.map fun x => x.2.toNat).getD 0, 16, 16), (c.resultSeq.toNat, 16, 0)] ]

/-- The 4 words of a fault record. -/
def FaultRecord.words (f : FaultRecord) : List Word :=
  [ pack [(f.code.classNumber, 3, 8), (f.code.number, 8, 0)],
    pack [(f.detail.toNat, 20, 0)],
    pack [(f.frame.toNat, 16, 16), (f.tag.toNat, 8, 0)],
    pack [(f.seq.toNat, 16, 0)] ]

/-- A fault record that may be empty: its empty value is the all-zero record. -/
def faultWords : Option FaultRecord → List Word
  | none => [0, 0, 0, 0]
  | some f => f.words

/-- The 2 words of a locate record. -/
def Locate.words : Locate → List Word
  | .none => [0, 0]
  | .unknown => [pack [(2, 2, 30)], 0]
  | .known p depth tag =>
    [ pack [(1, 2, 30), (depth, 4, 24), (extBit p.x, 1, 17), (extBit p.y, 1, 16), (tag.toNat, 16, 0)],
      pack [(lowBits 16 p.x, 16, 16), (lowBits 16 p.y, 16, 0)] ]

/-- Type code of an entry's shape. -/
def Shape.typeCode : Shape → Nat
  | .point _ _ => 1
  | .segment _ _ => 2
  | .circle _ _ => 3

/-- Snap kind code of an entry's shape; 0 when it has none. -/
def Shape.kindCode : Shape → Nat
  | .point k _ => k.code
  | .segment _ _ => 0
  | .circle _ _ => 0

/-- The four extension bits of peek word 1, in bits 23..20 (13.5). -/
def Shape.extBits : Shape → Nat
  | .point _ _ => 0
  | .segment p0 p1 => extBit p0.x * 8 + extBit p0.y * 4 + extBit p1.x * 2 + extBit p1.y
  | .circle c _ => extBit c.x * 8 + extBit c.y * 4

/-- Peek word 2. -/
def Shape.word2 : Shape → Word
  | .point _ p => pack [(lowBits 16 p.x, 16, 16), (lowBits 16 p.y, 16, 0)]
  | .segment p0 _ => pack [(lowBits 16 p0.x, 16, 16), (lowBits 16 p0.y, 16, 0)]
  | .circle c _ => pack [(lowBits 16 c.x, 16, 16), (lowBits 16 c.y, 16, 0)]

/-- Peek word 3. -/
def Shape.word3 : Shape → Word
  | .point _ _ => 0
  | .segment _ p1 => pack [(lowBits 16 p1.x, 16, 16), (lowBits 16 p1.y, 16, 0)]
  | .circle _ r => pack [(r, 12, 0)]

/-- The 4 words of the peek window (R173). -/
def PeekCopy.words (p : PeekCopy) : List Word :=
  match p.entry with
  | none => [pack [(1, 1, 31)], 0, 0, 0]
  | some e =>
    [ pack [(bit e.withdrawn, 1, 30), (e.shape.typeCode, 2, 28), (e.shape.kindCode, 2, 26), (p.pointer, 10, 16),
        (e.tag.toNat, 16, 0)],
      pack [(e.shape.extBits, 4, 20), (e.source.addr.toNat, 20, 0)],
      e.shape.word2,
      e.shape.word3 ]

/-- The peek window as it stands: the entry of the CURRENT bank that the pointer selects, or END (R173). -/
def livePeek (s : State) : PeekCopy :=
  ⟨s.pane.peek, (currentBank s).bind fun b => b.entries[s.pane.peek]?⟩

/-! ### Groups (13.4) -/

/-- The head of the directive queue is held (R163): it is search-bound and a search is in flight. -/
def headHeld (s : State) : Bool :=
  match s.dir.queue with
  | [] => false
  | e :: _ => e.dirKind.searchBound && s.se.search.isSome

/-- Directive progress words 5, 6, 7. -/
def progressWords (s : State) : List Word :=
  let p := s.dir.progress
  [ pack [(p.count.toNat, 16, 16), (p.tag.toNat, 8, 8), (p.kind.toNat, 8, 0)],
    pack [(p.slot.toNat, 4, 28), (bit p.reason.isSome, 1, 24), ((p.reason.map Reason.number).getD 0, 4, 16),
      (s.dir.queue.length, 5, 8)],
    pack [(bit (headHeld s), 1, 31), ((s.dir.queue.head?.map fun e => e.slot.toNat).getD 0, 4, 24),
      ((s.dir.queue.head?.map fun e => e.kind.toNat).getD 0, 8, 0)] ]

/-- The live conditions (R184). -/
def liveConditions (s : State) : Word :=
  pack [ (bit (s.trk.state == .lost), 1, 0),
    (bit ((currentBank s).any fun b => b.header.crowded), 1, 1),
    (bit s.se.result.stale, 1, 2),
    (bit (s.comp.serving.shedDash || s.comp.serving.shedTrail || s.comp.serving.shedMarker || s.comp.serving.shedBand), 1, 3),
    (bit (!s.cu.inRange), 1, 4),
    (bit s.pat.frozen, 1, 5),
    (bit (s.dir.queue.length == 16), 1, 6) ]

/-- The CURRENT bank header summary, words 33 to 36 (R170). -/
def bankWords (s : State) : List Word :=
  let ids := [(bankCode (findBank s.hv.banks .current), 2, 30), (bankCode (findBank s.hv.banks .ready), 2, 28),
    (bankCode (findBank s.hv.banks .filling), 2, 26)]
  match currentBank s with
  | none => [pack ids, 0, 0, 0]
  | some b =>
    [ pack (ids ++ [(bit b.header.crowded, 1, 25), (bit b.header.incomplete, 1, 24), (b.header.half, 11, 11),
        (b.entries.length, 11, 0)]),
      b.header.frame,
      pointWord b.header.centre,
      pack [(b.header.dropped, 16, 0)] ]

/-- The serving list's words 37 and 38 (R126). -/
def servingWords (c : Composed) : List Word :=
  [ pack [(bit c.dashCapped, 1, 31), (bit c.shedDash, 1, 30), (bit c.shedTrail, 1, 29), (bit c.shedMarker, 1, 28),
      (bit c.shedBand, 1, 27), (c.shedCount, 5, 16), (c.length, 11, 0)],
    pack [(c.resultSeq.toNat, 16, 0)] ]

/-- The identity word (R169, R191). -/
def identityWord : Word := 0xC2724001

/-- The pane's words 0 to 47 from given records (R169): live, or as latched. -/
def paneWords (r : Result) (c : CommitRecord) (p : PeekCopy) (s : State) : List Word :=
  [ identityWord,
    pack [(bit s.comp.pass.isSome, 1, 21), (bit s.se.search.isSome, 1, 20), (s.trk.state.code, 2, 16),
      (s.port.strap.toNat, 6, 8), (s.port.cause.code, 2, 4), (s.port.op.code, 3, 0)],
    s.pane.flags.setWidth 32,
    (maskedEvents s).setWidth 32,
    s.pane.mask.setWidth 32 ]
  ++ progressWords s
  ++ [ pointWord s.cu.pos,
    pack [(bit s.cu.edge, 1, 31), (bit s.cu.inRange, 1, 30), (s.cu.source.code, 2, 16), (s.cu.prev.toNat, 4, 0)] ]
  ++ r.words ++ c.words ++ faultWords s.flt.stopCause ++ faultWords s.flt.last
  ++ [s.flt.latch.setWidth 32, liveConditions s, s.trk.frames]
  ++ bankWords s ++ servingWords s.comp.serving ++ s.flt.locates.e0.words ++ s.flt.locates.e1.words
  ++ p.words ++ [pack [(s.pane.peek, 11, 0)]]

/-- Pane word k from live state (R169); words 48 to 63 read as zero. -/
def paneWord (s : State) (k : Nat) : Word :=
  (paneWords s.se.result s.band.commit (livePeek s) s)[k]?.getD 0

/-- Pane word k for a HOST read: the three records come from their latches while open (R171, R173). The read of a record's
first word takes a fresh copy, so it is answered from the live record. -/
def hostPaneWord (s : State) (k : Nat) : Word :=
  let r := if k = 10 then s.se.result else s.pane.resultLatch.getD s.se.result
  let c := if k = 18 then s.band.commit else s.pane.commitLatch.getD s.band.commit
  let p := if k = 43 then livePeek s else s.pane.peekLatch.getD (livePeek s)
  (paneWords r c p s)[k]?.getD 0

/-! ### Directives (R173, R175, R176) -/

/-- SET NOTIFY (R175). -/
def applySetNotify (e : DirEntry) (s : State) : State × Option Reason :=
  ({ s with pane := { s.pane with mask := BitVec.ofNat 9 (e.argU 0) } }, none)

/-- CLEAR EVENTS (R176): its owner's part is empty, since its clear is the last part of its execution event. -/
def applyClearEvents (_ : DirEntry) (s : State) : State × Option Reason := (s, none)

/-- The clear that ends a CLEAR EVENTS (R176). -/
def finishClearEvents (e : DirEntry) (s : State) : State := clearEventMask (BitVec.ofNat 9 (e.argU 0)) s

/-- SET PEEK (R173): the pointer is set, clamped to 0..1023, and an open peek latch closes. -/
def applySetPeek (e : DirEntry) (s : State) : State × Option Reason :=
  ({ s with pane := { s.pane with peek := clampNat 0 1023 (e.argU 0), peekLatch := none } }, none)

end Sys2Proof.Machine
end

