-- ==== Sys2Proof/Machine/Pattern.lean ====
section
/-! DEFINITION. Pattern Counters and the frozen condition (chapter 8): the channel step, the frame-start step, the rows
CHANNEL_RELOAD and DASH_PHASE_WRAP, and the effects of SET BLINK, FREEZE and THAW. -/

namespace Sys2Proof.Machine

/-- Settings are valid when 1 ≤ compare ≤ reload (R135). -/
def blinkValid (reload compare : Nat) : Bool := 1 ≤ compare && compare ≤ reload

/-- The output that a reload sets: ON when reload equals compare or the settings are steady (R135, R136). -/
def reloadOutput (reload compare : Nat) : Bool := !blinkValid reload compare || reload == compare

/-- One step of a channel: its counter and output afterwards (R135, R136). -/
def chanStep (reload compare count : Nat) (out : Bool) : Nat × Bool :=
  if count = 0 then (reload, reloadOutput reload compare)
  else (count - 1, !blinkValid reload compare || count - 1 == compare || out)

/-- A step of one 8-bit channel. -/
def Channel.step (c : Channel) : Channel :=
  { c with count := (chanStep c.reload c.compare c.count c.out).1, out := (chanStep c.reload c.compare c.count c.out).2 }

/-- The cascaded reload value (R134). -/
def Patterns.reload16 (p : Patterns) : Nat := p.b.reload * 256 + p.a.reload

/-- The cascaded compare value (R134). -/
def Patterns.compare16 (p : Patterns) : Nat := p.b.compare * 256 + p.a.compare

/-- The cascaded counter (R134). -/
def Patterns.count16 (p : Patterns) : Nat := p.b.count * 256 + p.a.count

/-- Puts a 16-bit count and an output into both channels (R138). -/
def Patterns.setCascade (count : Nat) (out : Bool) (p : Patterns) : Patterns :=
  { p with a := { p.a with count := count % 256, out := out }, b := { p.b with count := count / 256, out := out } }

/-- A step of the cascaded channel (R138). -/
def Patterns.cascadeStep (p : Patterns) : Patterns :=
  p.setCascade (chanStep p.reload16 p.compare16 p.count16 p.a.out).1 (chanStep p.reload16 p.compare16 p.count16 p.a.out).2

/-- The channels' part of the frame-start step (R137). -/
def Patterns.stepChannels (p : Patterns) : Patterns :=
  if p.cascade then
    if p.a.run then p.cascadeStep else p
  else { p with a := if p.a.run then p.a.step else p.a, b := if p.b.run then p.b.step else p.b }

/-- Either output differs. -/
def outputsDiffer (p q : Patterns) : Bool := p.a.out != q.a.out || p.b.out != q.b.out

/-- φ steps at a frame-start step: march is ON and P is at least 2 (R139). -/
def phaseSteps (s : State) : Bool := s.band.march && 2 ≤ s.band.period

/-- φ after its step (R139). -/
def phaseAfter (period phase : Nat) : Nat := if phase = 0 then period - 1 else phase - 1

/-- The frame-start step (R137): withheld whole while FROZEN. -/
def patternStep (s : State) : State :=
  if s.pat.frozen then s
  else
    let p := s.pat.stepChannels
    let p' := if phaseSteps s then { p with phase := phaseAfter s.band.period p.phase } else p
    let s' := { s with pat := p' }
    if outputsDiffer s.pat p || phaseSteps s then trigger s' else s'

/-- The channel a CHANNEL_RELOAD names stands at 0 and steps at frame starts (R134, R137). -/
def reloadDue (ch : ChannelName) (p : Patterns) : Bool :=
  if p.cascade then p.a.run && p.count16 == 0
  else match ch with
    | .a => p.a.run && p.a.count == 0
    | .b => p.b.run && p.b.count == 0

/-- The step of that channel alone. -/
def stepNamed (ch : ChannelName) (p : Patterns) : Patterns :=
  if p.cascade then p.cascadeStep
  else match ch with
    | .a => { p with a := p.a.step }
    | .b => { p with b := p.b.step }

/-- CHANNEL_RELOAD (R136): in ACTIVE and RUNNING, a running channel whose counter is 0 takes its step, which is a reload; a
change of an output triggers the composer. In any other case no such step occurs (log 4, log 10). -/
def execChannelReload (ch : ChannelName) (s : State) : Host.Outcome State Fault Refusal :=
  .next <|
    if s.port.op = .active ∧ s.pat.frozen = false ∧ reloadDue ch s.pat = true then
      let s' := { s with pat := stepNamed ch s.pat }
      if outputsDiffer s.pat s'.pat then trigger s' else s'
    else s

/-- DASH_PHASE_WRAP (R139): in ACTIVE and RUNNING, with march ON and P at least 2, φ steps from 0 to P − 1 and triggers the
composer. In any other case no such step occurs (log 4, log 10). -/
def execDashPhaseWrap (s : State) : Host.Outcome State Fault Refusal :=
  .next <|
    if s.port.op = .active ∧ s.pat.frozen = false ∧ phaseSteps s = true ∧ s.pat.phase = 0 then
      trigger { s with pat := { s.pat with phase := phaseAfter s.band.period s.pat.phase } }
    else s

/-- The settings that SET BLINK's fields give, with the counters and outputs as they stand (R140). -/
def blinkSettings (e : DirEntry) (p : Patterns) : Patterns :=
  { p with
    cascade := e.argU 0 != 0
    a := { p.a with reload := clampNat 0 255 (e.argU 1), compare := clampNat 0 255 (e.argU 2), run := e.argU 5 != 0 }
    b := { p.b with reload := clampNat 0 255 (e.argU 3), compare := clampNat 0 255 (e.argU 4), run := e.argU 6 != 0 } }

/-- A preset (R141). -/
def Patterns.preset (p : Patterns) : Patterns :=
  if p.cascade then p.setCascade p.reload16 (reloadOutput p.reload16 p.compare16)
  else { p with
    a := { p.a with count := p.a.reload, out := reloadOutput p.a.reload p.a.compare }
    b := { p.b with count := p.b.reload, out := reloadOutput p.b.reload p.b.compare } }

/-- No preset: an output becomes ON when its channel's new settings are not valid (R141). -/
def Patterns.keepCounts (p : Patterns) : Patterns :=
  if p.cascade then
    let v := blinkValid p.reload16 p.compare16
    { p with a := { p.a with out := !v || p.a.out }, b := { p.b with out := !v || p.b.out } }
  else { p with
    a := { p.a with out := !blinkValid p.a.reload p.a.compare || p.a.out }
    b := { p.b with out := !blinkValid p.b.reload p.b.compare || p.b.out } }

/-- The counters after SET BLINK (R140, R141). -/
def blinkAfter (e : DirEntry) (p : Patterns) : Patterns :=
  let q := blinkSettings e p
  if e.argU 7 ≠ 0 ∨ q.cascade ≠ p.cascade then q.preset else q.keepCounts

/-- SET BLINK (R140, R141): always accepted; a change of either output triggers the composer. -/
def applySetBlink (e : DirEntry) (s : State) : State × Option Reason :=
  let s' := { s with pat := blinkAfter e s.pat }
  (if outputsDiffer s.pat s'.pat then trigger s' else s', none)

/-- FREEZE (R142). -/
def applyFreeze (_ : DirEntry) (s : State) : State × Option Reason :=
  if s.port.op = .active then (setFrozen true s, none) else (s, some .notActive)

/-- THAW (R142). -/
def applyThaw (_ : DirEntry) (s : State) : State × Option Reason := (setFrozen false s, none)

end Sys2Proof.Machine
end

