-- ==== Sys2Proof/Machine/Reset.lean ====
section
/-! DEFINITION. Resets and the RESET pin (R151, R152, R156 to R158), each block taking the values its chapter gives. -/

namespace Sys2Proof.Machine

/-- The Search Engine under a reset or the held pin: its settings are kept (R62, R82). -/
def SearchEngine.cleared (e : SearchEngine) : SearchEngine :=
  { e with
    presses := [], motion := false, search := none, result := Result.resetValue, identity := none, startOwed := false }

/-- The Cursor Unit under a reset or the held pin: its settings are kept (R97). -/
def CursorUnit.cleared (c : CursorUnit) : CursorUnit :=
  { c with pos := ⟨2048, 2048⟩, edge := false, inRange := false, prev := 0, ring := 0, capture := Vector.replicate 32 (0, 0) }

/-- The Band Unit under a reset or the held pin: the band settings are kept (R113). -/
def Band.cleared (b : Band) : Band := { b with anchor := none, trail := [], commit := CommitRecord.resetValue }

/-- The Preview Composer under a reset or the held pin: the style is kept (R133). -/
def Composer.cleared (c : Composer) : Composer :=
  { c with pass := none, again := false, staged := Composed.emptyList, serving := Composed.emptyList, entered := false }

/-- The Directive Unit under a reset or the held pin: the slot shadow is kept (R168). -/
def DirectiveUnit.cleared (d : DirectiveUnit) : DirectiveUnit :=
  { d with queue := [], progress := Progress.resetValue, continuation := none }

/-- The Status Pane under a reset or the held pin: the notify mask is kept (R177). -/
def StatusPane.cleared (p : StatusPane) : StatusPane :=
  { p with flags := 0, resultLatch := none, commitLatch := none, peekLatch := none, peek := 0 }

/-- What every warm reset, RESTART and the holding of the pin do to the blocks other than the port: the working state goes to its
reset values and every setting, and the fault records, stay (R20, R40, R62, R97, R113, R133, R145, R168, R177, R188). -/
def clearWorking (s : State) : State :=
  { s with
    trk := Tracker.resetValue
    hv := Harvester.emptied
    se := s.se.cleared
    cu := s.cu.cleared
    band := s.band.cleared
    comp := s.comp.cleared
    pat := { s.pat with frozen := false }
    dir := s.dir.cleared
    pane := s.pane.cleared
    flt := { s.flt with locates := ⟨.none, .none⟩ } }

/-- Entry to ACTIVE from a reset: the tracker is WAITING at the list base and the composer is triggered (R20, R117, R157). -/
def enterActive (listBase : Addr) (s : State) : State :=
  trigger (setTrk { s.trk with state := .waiting, expected := listBase } (setOp .active s))

/-- ACTIVE with a configuration held, PASSIVE without (R156, R157). -/
def enterConfigured (s : State) : State :=
  match s.port.config with
  | none => setOp .passive s
  | some m => enterActive m.listBase s

/-- The state a cold or warm reset enters by the strap value: DISABLED for 63 (R147, R157). -/
def enterByStrap (s : State) : State := if s.port.strap = 63#6 then setOp .disabled s else enterConfigured s

/-- The cold reset (R157): every piece of state at its reset value, the straps sampled. The model's own counter and queue stay
(log 9). -/
def coldReset (straps : BitVec 6) (s : State) : State :=
  enterByStrap { State.reset with
    port := ⟨straps, none, .passive, .power⟩
    orderChoices := s.orderChoices
    pending := s.pending }

/-- Records every fault raised and not yet taken, in order, stopping nothing (log 8). -/
def recordAll (s : State) : State :=
  let t := s.flt.raised.foldl (fun t f => recordFault f t) s
  { t with flt := { t.flt with raised := [] } }

/-- The pin is asserted (R152): TRANSPARENT, with the values each block gives for the holding of the pin. Faults raised before
it are recorded with it (log 8). -/
def assertPin (s : State) : State := setOp .transparent (clearWorking (recordAll s))

/-- The region check of a warm reset (R157): a held configuration that meets the new strap block is discarded. With strap value
63 it is kept, unchecked. -/
def checkConfig (straps : BitVec 6) : Option RegionMap → Option RegionMap
  | none => none
  | some m => if m.hitsStrap straps then none else some m

/-- The warm reset at the release of the pin (R157, R158). -/
def warmReset (straps : BitVec 6) (s : State) : State :=
  let s := clearWorking s
  enterByStrap { s with port :=
    { s.port with strap := straps, config := checkConfig straps s.port.config, cause := .pin } }

/-- RESTART's effect on the blocks (R156): the warm reset without resampling the straps and without a new region check. -/
def restartReset (s : State) : State :=
  let s := clearWorking s
  enterConfigured { s with port := { s.port with cause := .restart } }

/-- POWER_ON (R157); with the pin held the part is then TRANSPARENT until its release (R152). -/
def execPowerOn (straps : BitVec 6) (pinHeld : Bool) (s : State) : Host.Outcome State Fault Refusal :=
  .next <| if pinHeld then assertPin (coldReset straps s) else coldReset straps s

/-- RESET_PIN_ASSERTED (R152). -/
def execResetPinAsserted (s : State) : Host.Outcome State Fault Refusal := .next (assertPin s)

/-- RESET_PIN_RELEASED (R157). A pin that is not held cannot be released (log 4). -/
def execResetPinReleased (straps : BitVec 6) (s : State) : Host.Outcome State Fault Refusal :=
  .next <| if s.port.op = .transparent then warmReset straps s else s

end Sys2Proof.Machine
end

