-- ==== Sys2Proof/Machine/Settings.lean ====
section
/-! DEFINITION. The snap, grid, direction and constraint directives (R61, R79 to R82). -/

namespace Sys2Proof.Machine

/-- Replaces the Search Engine. -/
def setSe (e : SearchEngine) (s : State) : State := { s with se := e }

/-- The snap settings of the nine fields (R61). -/
def snapOf (e : DirEntry) : SnapSettings :=
  let a := clampNat 1 255 (e.argU 6)
  { prio := ⟨clampNat 0 7 (e.argU 0), clampNat 0 7 (e.argU 1), clampNat 0 7 (e.argU 2), clampNat 0 7 (e.argU 3),
      clampNat 0 7 (e.argU 4), clampNat 0 7 (e.argU 5)⟩
    aperture := a
    half := clampNat (a + 16) 1024 (e.argU 7)
    margin := clampNat 0 64 (e.argU 8) }

/-- SET SNAP (R61). -/
def applySetSnap (e : DirEntry) (s : State) : State × Option Reason := (setSe { s.se with snap := snapOf e } s, none)

/-- The grid settings of the five fields (R79). -/
def gridOf (e : DirEntry) : GridSettings where
  on := e.argU 0 != 0
  origin := ⟨clampNat 0 4095 (e.argU 1), clampNat 0 4095 (e.argU 2)⟩
  pitch := ⟨clampNat 2 1024 (e.argU 3), clampNat 2 1024 (e.argU 4)⟩

/-- SET GRID (R79). -/
def applySetGrid (e : DirEntry) (s : State) : State × Option Reason := (setSe { s.se with grid := gridOf e } s, none)

/-- A direction component limited to −255..255 (R80). -/
def clampComponent (v : Int) : Int := max (-255) (min 255 v)

/-- A pair of fields as a direction (R80). -/
def directionAt (e : DirEntry) (i j : Fin 14) : Pt := ⟨clampComponent (e.argS i), clampComponent (e.argS j)⟩

/-- Writes pairs to consecutive table entries; entries past 15 do not exist. -/
def writeDirections : List Pt → Nat → Vector Pt 16 → Vector Pt 16
  | [], _, t => t
  | p :: rest, at0, t => writeDirections rest (at0 + 1) (if h : at0 < 16 then t.set at0 p else t)

/-- The table and the continuation index after `count` pairs from entry `at0` (R80, R81). -/
def loadTable (pairs : List Pt) (at0 count : Nat) (s : State) : State :=
  let s := setSe { s.se with dirs := writeDirections (pairs.take count) at0 s.se.dirs } s
  { s with dir := { s.dir with continuation := some (at0 + count) } }

/-- LOAD DIRECTIONS (R80). -/
def applyLoadDirections (e : DirEntry) (s : State) : State × Option Reason :=
  let count := clampNat 1 5 (e.argU 1)
  if e.argU 0 + count > 16 then (s, some .indexRange)
  else (loadTable [directionAt e 2 3, directionAt e 4 5, directionAt e 6 7, directionAt e 8 9, directionAt e 10 11]
    (e.argU 0) count s, none)

/-- CONTINUE DIRECTIONS (R81). -/
def applyContinueDirections (e : DirEntry) (s : State) : State × Option Reason :=
  let count := clampNat 1 6 (e.argU 0)
  match s.dir.continuation with
  | none => (s, some .noContinuation)
  | some at0 =>
    if at0 + count > 16 then (s, some .indexRange)
    else (loadTable [directionAt e 1 2, directionAt e 3 4, directionAt e 5 6, directionAt e 7 8, directionAt e 9 10,
      directionAt e 11 12] at0 count s, none)

/-- Constraint codes; above 2 is clamped to 2 (R82). -/
def modeOf : Nat → ConstraintMode
  | 0 => .off
  | 1 => .table
  | _ => .ortho

/-- SET CONSTRAINT (R82). -/
def applySetConstraint (e : DirEntry) (s : State) : State × Option Reason :=
  (setSe { s.se with mode := modeOf (e.argU 0) } s, none)

end Sys2Proof.Machine
end

