-- ==== Sys2Proof/Machine/Directives.lean ====
section
/-! DEFINITION. The Directive Unit (chapter 10): posting, the queue, execution, outcomes and progress, the directives of the
port and of the Fault Unit, and one row per directive kind. -/

namespace Sys2Proof.Machine

/-! ### Slots and posting -/

/-- The place of argument word w, 1..7, of slot s in the shadow. -/
def shadowIndex (slot word : Nat) : Nat := 7 * slot + (word - 1)

/-- A write to word 1..7 of a slot (R159). -/
def writeShadow (slot word : Nat) (w : Word) (s : State) : State :=
  if h : shadowIndex slot word < 112 then
    { s with dir := { s.dir with shadow := s.dir.shadow.set (shadowIndex slot word) w } }
  else s

/-- Argument words 1..7 of a slot as the shadow holds them (R160). -/
def shadowArgs (slot : BitVec 4) (sh : Vector Word 112) : Vector Word 7 :=
  Vector.ofFn fun i : Fin 7 => sh[7 * slot.toNat + i.val]'(by have := slot.isLt; omega)

/-- The entry that a posting forms (R160): kind in bits 31..24 and tag in bits 23..16 of the header. -/
def postedEntry (slot : BitVec 4) (header : Word) (s : State) : DirEntry where
  slot := slot
  kind := BitVec.ofNat 8 (bitsOf header 24 8)
  tag := BitVec.ofNat 8 (bitsOf header 16 8)
  args := shadowArgs slot s.dir.shadow

/-- A write to word 0 of a slot (R160, R162): kind 0 posts nothing; a posting is queued, or lost with QUEUE OVERFLOW when 16
are queued. -/
def postSlot (slot : BitVec 4) (header : Word) (s : State) : State :=
  let e := postedEntry slot header s
  if e.kind = 0 then s
  else if s.dir.queue.length < 16 then { s with dir := { s.dir with queue := s.dir.queue ++ [e] } }
  else raise .queueOverflow (slot.setWidth 20) e.tag s

/-! ### Directives of the Transit Port and the Fault Unit -/

/-- The region map that CONFIGURE's five fields form (R153). -/
def mapOf (e : DirEntry) : RegionMap where
  listBase := BitVec.ofNat 20 (e.argU 0 * 16)
  windowBase := BitVec.ofNat 20 (e.argU 1 * 16)
  windowLen := if e.argU 2 = 0 then 256 else 16 * clampNat 2 64 (e.argU 2)
  mailboxBase := BitVec.ofNat 20 (e.argU 3 * 16)
  records := clampNat 4 32 (e.argU 4)

/-- The effects of an accepted CONFIGURE (R155): the working state is cleared, the map replaced, ACTIVE entered and the composer
triggered. -/
def configureWith (m : RegionMap) (s : State) : State :=
  let s := setFrozen false (discardLists (restartTracker .waiting (emptyHarvest (abandonSearch s))))
  let s := setCu { s.cu with ring := 0, capture := Vector.replicate 32 (0, 0) } s
  trigger { s with port := { s.port with config := some m, op := .active } }

/-- CONFIGURE (R153 to R155). -/
def applyConfigure (e : DirEntry) (s : State) : State × Option Reason :=
  if (mapOf e).placeable s.port.strap then (configureWith (mapOf e) s, none) else (s, some .badRegion)

/-- RESTART (R156). -/
def applyRestart (_ : DirEntry) (s : State) : State × Option Reason := (restartReset s, none)

/-- RESUME (R183). -/
def applyResume (_ : DirEntry) (s : State) : State × Option Reason :=
  if s.port.op = .bypass then (trigger (restartTracker .waiting (setOp .active s)), none) else (s, some .notStopped)

/-- SET RESPONSES (R179). -/
def applySetResponses (e : DirEntry) (s : State) : State × Option Reason :=
  ({ s with flt := { s.flt with responses :=
    ⟨e.argU 0 != 0, e.argU 1 != 0, e.argU 2 != 0, e.argU 3 != 0, e.argU 4 != 0⟩ } }, none)

/-- CLEAR FAULTS (R182). -/
def applyClearFaults (_ : DirEntry) (s : State) : State × Option Reason :=
  ({ s with flt := { s.flt with latch := 0, stopCause := none } }, none)

/-- Watch action codes; above 2 is clamped to 2 (R185). -/
def watchActionOf : Nat → WatchAction
  | 0 => .note
  | 1 => .freeze
  | _ => .locate

/-- The watch that SET WATCH's fields program (R185). -/
def watchOf (e : DirEntry) : Watch where
  on := e.argU 4 != 0
  addr := BitVec.ofNat 20 (clampNat 0 15 (e.argU 1) * 65536 + e.argU 2)
  action := watchActionOf (e.argU 3)

/-- SET WATCH (R185). -/
def applySetWatch (e : DirEntry) (s : State) : State × Option Reason :=
  match e.argU 0 with
  | 0 => ({ s with flt := { s.flt with
      watches := { s.flt.watches with e0 := watchOf e }, locates := { s.flt.locates with e0 := .none } } }, none)
  | 1 => ({ s with flt := { s.flt with
      watches := { s.flt.watches with e1 := watchOf e }, locates := { s.flt.locates with e1 := .none } } }, none)
  | _ => (s, some .indexRange)

/-- A kind of 28..255 (R166). -/
def applyUnknown (_ : DirEntry) (s : State) : State × Option Reason := (s, some .unknownKind)

/-! ### Execution -/

/-- What a directive's owner block does. -/
abbrev Effect := DirEntry → State → State × Option Reason

/-- The owner's effect of each kind (10.6). -/
def effectOf : DirKind → Effect
  | .configure => applyConfigure
  | .restart => applyRestart
  | .resume => applyResume
  | .setResponses => applySetResponses
  | .clearFaults => applyClearFaults
  | .setWatch => applySetWatch
  | .freeze => applyFreeze
  | .thaw => applyThaw
  | .setBlink => applySetBlink
  | .setInput => applySetInput
  | .setCursor => applySetCursor
  | .setButtons => applySetButtons
  | .setSnap => applySetSnap
  | .setGrid => applySetGrid
  | .loadDirections => applyLoadDirections
  | .continueDirections => applyContinueDirections
  | .setConstraint => applySetConstraint
  | .setAnchor => applySetAnchor
  | .clearAnchor => applyClearAnchor
  | .trailAppend => applyTrailAppend
  | .trailDrop => applyTrailDrop
  | .trailClear => applyTrailClear
  | .setBand => applySetBand
  | .setStyle => applySetStyle
  | .setNotify => applySetNotify
  | .clearEvents => applyClearEvents
  | .setPeek => applySetPeek
  | .unknown => applyUnknown

/-- The head may execute (R163): in PASSIVE, ACTIVE or BYPASS, and while the Search Engine is IDLE if it is search-bound. -/
def mayExecute (e : DirEntry) (s : State) : Bool :=
  (s.port.op == .passive || s.port.op == .active || s.port.op == .bypass)
    && (!e.dirKind.searchBound || s.se.search.isNone)

/-- Directive progress after an execution (R167). -/
def reportOutcome (e : DirEntry) (r : Option Reason) (s : State) : State :=
  { s with dir := { s.dir with progress := ⟨s.dir.progress.count + 1, e.slot, e.kind, e.tag, r⟩ } }

/-- A refusal sets REFUSED and raises fault 32 with its reason and the directive's tag (R166). -/
def noteRefusal (e : DirEntry) (r : Option Reason) (s : State) : State :=
  match r with
  | none => s
  | some x => raise .refused (BitVec.ofNat 20 x.number) e.tag (setEvent .refused s)

/-- The executed entry leaves the queue; DRAINED is set when it was the last (R168). -/
def leaveQueue (s : State) : State :=
  let s := { s with dir := { s.dir with queue := s.dir.queue.tail } }
  if s.dir.queue.isEmpty then setEvent .drained s else s

/-- One execution, as one event (R163, R165 to R168): the owner's whole effect, the report, the refusal if it is one, and the
departure from the queue. -/
def executeEntry (effect : Effect) (e : DirEntry) (s : State) : State :=
  leaveQueue (noteRefusal e (effect e s).2 (reportOutcome e (effect e s).2 (effect e s).1))

/-- Executes the head of the queue if it is of the given kind and may execute; otherwise no such step occurs (log 4). -/
def runDirective (k : DirKind) (effect : Effect) (s : State) : State :=
  match s.dir.queue with
  | [] => s
  | e :: _ => if e.dirKind = k ∧ mayExecute e s = true then executeEntry effect e s else s

/-- A HELD head, released, executes (R164). -/
def executeHead (s : State) : State :=
  match s.dir.queue with
  | [] => s
  | e :: _ => executeEntry (effectOf e.dirKind) e s

/-! ### The rows -/

/-- CONFIGURE (R155). -/
def execConfigure (s : State) : Host.Outcome State Fault Refusal := .next (runDirective .configure applyConfigure s)

/-- RESTART (R156): the reset empties the queue and progress, and RESTART's own outcome is the first report after it (R168). -/
def execRestart (s : State) : Host.Outcome State Fault Refusal := .next (runDirective .restart applyRestart s)

/-- RESUME (R183). -/
def execResume (s : State) : Host.Outcome State Fault Refusal := .next (runDirective .resume applyResume s)

/-- SET_RESPONSES (R179). -/
def execSetResponses (s : State) : Host.Outcome State Fault Refusal := .next (runDirective .setResponses applySetResponses s)

/-- CLEAR_FAULTS (R182). -/
def execClearFaults (s : State) : Host.Outcome State Fault Refusal := .next (runDirective .clearFaults applyClearFaults s)

/-- SET_WATCH (R185). -/
def execSetWatch (s : State) : Host.Outcome State Fault Refusal := .next (runDirective .setWatch applySetWatch s)

/-- FREEZE (R142). -/
def execFreeze (s : State) : Host.Outcome State Fault Refusal := .next (runDirective .freeze applyFreeze s)

/-- THAW (R142). -/
def execThaw (s : State) : Host.Outcome State Fault Refusal := .next (runDirective .thaw applyThaw s)

/-- SET_BLINK (R140, R141). -/
def execSetBlink (s : State) : Host.Outcome State Fault Refusal := .next (runDirective .setBlink applySetBlink s)

/-- SET_INPUT (R95). -/
def execSetInput (s : State) : Host.Outcome State Fault Refusal := .next (runDirective .setInput applySetInput s)

/-- SET_CURSOR (R96). -/
def execSetCursor (s : State) : Host.Outcome State Fault Refusal := .next (runDirective .setCursor applySetCursor s)

/-- SET_BUTTONS (R94). -/
def execSetButtons (s : State) : Host.Outcome State Fault Refusal := .next (runDirective .setButtons applySetButtons s)

/-- SET_SNAP (R61). -/
def execSetSnap (s : State) : Host.Outcome State Fault Refusal := .next (runDirective .setSnap applySetSnap s)

/-- SET_GRID (R79). -/
def execSetGrid (s : State) : Host.Outcome State Fault Refusal := .next (runDirective .setGrid applySetGrid s)

/-- LOAD_DIRECTIONS (R80). -/
def execLoadDirections (s : State) : Host.Outcome State Fault Refusal :=
  .next (runDirective .loadDirections applyLoadDirections s)

/-- CONTINUE_DIRECTIONS (R81). -/
def execContinueDirections (s : State) : Host.Outcome State Fault Refusal :=
  .next (runDirective .continueDirections applyContinueDirections s)

/-- SET_CONSTRAINT (R82). -/
def execSetConstraint (s : State) : Host.Outcome State Fault Refusal :=
  .next (runDirective .setConstraint applySetConstraint s)

/-- SET_ANCHOR (R105). -/
def execSetAnchor (s : State) : Host.Outcome State Fault Refusal := .next (runDirective .setAnchor applySetAnchor s)

/-- CLEAR_ANCHOR (R105). -/
def execClearAnchor (s : State) : Host.Outcome State Fault Refusal := .next (runDirective .clearAnchor applyClearAnchor s)

/-- TRAIL_APPEND (R106). -/
def execTrailAppend (s : State) : Host.Outcome State Fault Refusal := .next (runDirective .trailAppend applyTrailAppend s)

/-- TRAIL_DROP (R107). -/
def execTrailDrop (s : State) : Host.Outcome State Fault Refusal := .next (runDirective .trailDrop applyTrailDrop s)

/-- TRAIL_CLEAR (R108). -/
def execTrailClear (s : State) : Host.Outcome State Fault Refusal := .next (runDirective .trailClear applyTrailClear s)

/-- SET_BAND (R112). -/
def execSetBand (s : State) : Host.Outcome State Fault Refusal := .next (runDirective .setBand applySetBand s)

/-- SET_STYLE (R132). -/
def execSetStyle (s : State) : Host.Outcome State Fault Refusal := .next (runDirective .setStyle applySetStyle s)

/-- SET_NOTIFY (R175). -/
def execSetNotify (s : State) : Host.Outcome State Fault Refusal := .next (runDirective .setNotify applySetNotify s)

/-- CLEAR_EVENTS (R176): the clear is the last part of the execution, after DRAINED. -/
def execClearEvents (s : State) : Host.Outcome State Fault Refusal :=
  .next <| match s.dir.queue with
    | [] => s
    | e :: _ =>
      if e.dirKind = .clearEvents ∧ mayExecute e s = true then finishClearEvents e (executeEntry applyClearEvents e s) else s

/-- SET_PEEK (R173). -/
def execSetPeek (s : State) : Host.Outcome State Fault Refusal := .next (runDirective .setPeek applySetPeek s)

/-- UNKNOWN_KIND (R166). -/
def execUnknownKind (s : State) : Host.Outcome State Fault Refusal := .next (runDirective .unknown applyUnknown s)

end Sys2Proof.Machine
end

