-- ==== Sys2Proof/Machine/Faults.lean ====
section
/-! DEFINITION. Taking a fault and stopping the part (R178 to R181). -/

namespace Sys2Proof.Machine

/-- What a stop clears and sets (R180), but for the release of a HELD head. The stop-cause record is a copy of the last-fault
record, which the fault that stops the part has just written. -/
def enterBypass (s : State) : State :=
  let s := setEvent .stopped { s with flt := { s.flt with stopCause := s.flt.last } }
  setFrozen false (discardLists (emptyHarvest (abandonSearch (restartTracker .halted (setOp .bypass s)))))

/-- The stop (R180). The abandonment of the search releases a HELD head, which executes (R164). -/
def stopPart (s : State) : State := if headHeld s then executeHead (enterBypass s) else enterBypass s

/-- The Fault Unit takes the oldest raised fault (R178, R179); none waits: no such step occurs (log 4). -/
def takeFault (s : State) : State :=
  match s.flt.raised with
  | [] => s
  | f :: rest =>
    let s := recordFault f { s with flt := { s.flt with raised := rest } }
    if s.flt.responses.stops f.code ∧ s.port.op = .active then stopPart s else s

/-- Takes n faults, oldest first. -/
def takeFaults : Nat → State → State
  | 0, s => s
  | n + 1, s => takeFaults n (takeFault s)

/-- FAULT_TAKEN (R178). -/
def execFaultTaken (s : State) : Host.Outcome State Fault Refusal := .next (takeFault s)

end Sys2Proof.Machine
end

