-- ==== Sys2Proof/Machine/Search.lean ====
section
/-! DEFINITION. Snap search (chapter 3): the start, the examination of entries, the choice of the outcome, and completion. -/

namespace Sys2Proof.Machine

/-! ### Start (R45, R46) -/

/-- SEARCH_START (R45): the search that is due starts. With the engine SEARCHING, outside ACTIVE, or with no request pending,
no search starts (log 4). -/
def execSearchStart (s : State) : Host.Outcome State Fault Refusal := .next (startSearch s)

/-! ### Examination (R47 to R51, R53) -/

/-- The priority of a kind (R61). -/
def Priorities.of (p : Priorities) : SnapKind → Nat
  | .endpoint => p.endpoint
  | .midpoint => p.midpoint
  | .centre => p.centre
  | .quadrant => p.quadrant
  | .nearest => p.nearest
  | .perpendicular => p.perpendicular

/-- The contender kind of a POINT entry (R48). -/
def PointKind.snapKind : PointKind → SnapKind
  | .endpoint => .endpoint
  | .midpoint => .midpoint
  | .centre => .centre
  | .quadrant => .quadrant

/-- A contender of an entry at a place of the bank (R51). -/
def contenderAt (sr : Search) (e : Entry) (place : Nat) (k : SnapKind) (second : Bool) (p : Pt) : Contender :=
  ⟨k, p, dist2 p sr.cursor, place, second, e.source.addr, e.tag⟩

/-- The contenders that an entry forms, before the aperture test (R48 to R50). -/
def contendersOf (sr : Search) (e : Entry) (place : Nat) : List Contender :=
  match e.shape with
  | .point k p =>
    if 0 < sr.prio.of k.snapKind then [contenderAt sr e place k.snapKind false p] else []
  | .segment p0 p1 =>
    (if 0 < sr.prio.nearest then [contenderAt sr e place .nearest false (nearestOnSegment p0 p1 sr.cursor)] else [])
    ++ (if 0 < sr.prio.perpendicular then
          match sr.anchor.bind (fun a => perpendicularFoot a p0 p1) with
          | none => []
          | some f => [contenderAt sr e place .perpendicular true f]
        else [])
  | .circle c r =>
    if 0 < sr.prio.nearest then [contenderAt sr e place .nearest false (nearestOnCircle c r sr.cursor)] else []

/-- The aperture test (R51, R69). -/
def inAperture (sr : Search) (c : Contender) : Bool := c.d2 ≤ sr.aperture * sr.aperture

/-- The entry matches a hold identity (R53). -/
def HoldId.matchesEntry (h : HoldId) (e : Entry) : Bool :=
  e.source.addr == h.source &&
    match e.shape with
    | .point k p => k.snapKind == h.kind && h.point == some p
    | .segment _ _ => h.kind == .nearest || h.kind == .perpendicular
    | .circle _ _ => h.kind == .nearest

/-- The hold candidate that a matching entry forms, its point recomputed (R53): none when the kind is off or has no foot. -/
def holdFrom (sr : Search) (h : HoldId) (e : Entry) (place : Nat) : Option Contender :=
  (contendersOf sr e place).find? fun c => c.kind == h.kind

/-- The search after examining one entry (R47, R53). -/
def examine (e : Entry) (sr : Search) : Search :=
  if e.withdrawn then { sr with next := sr.next + 1 }
  else
    let found := match sr.identity with
      | none => false
      | some h => !sr.holdMet && h.matchesEntry e
    { sr with
      next := sr.next + 1
      kept := sr.kept ++ (contendersOf sr e sr.next).filter (inAperture sr)
      holdMet := sr.holdMet || found
      hold := if found then sr.identity.bind (fun h => holdFrom sr h e sr.next) else sr.hold }

/-- The next entry to examine, if one is left (R47). -/
def nextEntry (sr : Search) (s : State) : Option Entry :=
  sr.bank.bind fun i => (s.hv.banks.get i).entries[sr.next]?

/-- ENTRY_EXAMINED (R47). With no search in flight or no entry left, no such step occurs (log 4). -/
def execEntryExamined (s : State) : Host.Outcome State Fault Refusal :=
  .next <| match s.se.search with
    | none => s
    | some sr =>
      match nextEntry sr s with
      | none => s
      | some e => { s with se := { s.se with search := some (examine e sr) } }

/-! ### The outcome (R52 to R56) -/

/-- Contender c takes the win from w, which was examined before it (R52). -/
def outranks (p : Priorities) (c w : Contender) : Bool :=
  p.of w.kind < p.of c.kind || (p.of c.kind == p.of w.kind && c.d2 < w.d2)

/-- The winner among the kept contenders, in order of examination (R52). -/
def bestKept (sr : Search) : Option Contender :=
  sr.kept.foldl (fun best c => match best with
    | none => some c
    | some w => if outranks sr.prio c w then some c else some w) none

/-- The hold rule applies (R54). -/
def holdWins (sr : Search) (h : Contender) : Bool :=
  h.d2 ≤ (sr.aperture + sr.margin) * (sr.aperture + sr.margin)
    && sr.kept.all fun c => sr.prio.of c.kind ≤ sr.prio.of h.kind

/-- The object winner and whether it is held (R52, R54). -/
def objectWinner (sr : Search) : Option (Contender × Bool) :=
  match sr.hold with
  | some h => if holdWins sr h then some (h, true) else (bestKept sr).map fun c => (c, false)
  | none => (bestKept sr).map fun c => (c, false)

/-- The outcome of the fallback (R55): the point before its clamp, the kind and the flags. -/
structure Fallback where
  point : Pt
  kind : ResultKind
  gridded : Bool
  unconstrained : Bool
deriving DecidableEq, Repr

/-- The anchor from which the fallback's constraint step is taken, if it is (R55, step 3). -/
def constraintAnchor (sr : Search) : Option Pt := if sr.mode = .off then none else sr.anchor

/-- The fallback (R55, steps 1 to 3). -/
def fallback (sr : Search) : Fallback :=
  let p := if sr.grid.on then gridPoint sr.grid sr.cursor else sr.cursor
  let k : ResultKind := if sr.grid.on then .grid else .free
  match constraintAnchor sr with
  | none => ⟨p, k, sr.grid.on, false⟩
  | some a =>
    match constrainPoint sr.mode sr.dirs a p with
    | none => ⟨p, k, sr.grid.on, true⟩
    | some q => ⟨q, .constrained, sr.grid.on, false⟩

/-- The held bank, if any. -/
def heldBank (sr : Search) (s : State) : Option Bank := sr.bank.map s.hv.banks.get

/-- The STALE test (R56). -/
def staleTest (sr : Search) (s : State) : Bool :=
  match heldBank sr s with
  | none => true
  | some b =>
    (b.header.half : Int) - sr.aperture < (sr.cursor.x - b.header.centre.x).natAbs
      || (b.header.half : Int) - sr.aperture < (sr.cursor.y - b.header.centre.y).natAbs

/-- The winner's entry was withdrawn after it was examined (R57). -/
def winnerWithdrawn (sr : Search) (c : Contender) (s : State) : Bool :=
  match (heldBank sr s).bind fun b => b.entries[c.place]? with
  | none => false
  | some e => e.withdrawn

/-- The request was a press. -/
def Request.isPress : Request → Bool
  | .press _ => true
  | .motion => false

/-- The published result record (R55 to R59). -/
def resultOf (sr : Search) (s : State) : Result :=
  let base : Result :=
    { Result.resetValue with
      seq := s.se.result.seq + 1
      press := sr.request.isPress
      cursor := sr.cursor
      bankFrame := ((heldBank sr s).map fun b => b.header.frame).getD 0
      stale := staleTest sr s
      outOfRange := !sr.request.isPress && !s.cu.inRange }
  match objectWinner sr with
  | some (c, held) =>
    { base with
      kind := .object c.kind
      point := clampPt c.point
      d2 := c.d2
      source := some (c.source, c.tag)
      withdrawn := winnerWithdrawn sr c s
      edge := clampEdge c.point
      held := held }
  | none =>
    let f := fallback sr
    { base with
      kind := f.kind
      point := clampPt f.point
      edge := clampEdge f.point
      gridded := f.gridded
      unconstrained := f.unconstrained }

/-- The kind is one of the point kinds (R53). -/
def SnapKind.isPointKind : SnapKind → Bool
  | .endpoint => true
  | .midpoint => true
  | .centre => true
  | .quadrant => true
  | .nearest => false
  | .perpendicular => false

/-- The hold identity that a publication sets (R53). -/
def identityOf (sr : Search) : Option HoldId :=
  (objectWinner sr).map fun w => ⟨w.1.source, w.1.kind, if w.1.kind.isPointKind then some w.1.point else none⟩

/-! ### Completion (R58) -/

/-- The search has examined its last entry, or holds no bank (R58). -/
def searchDone (sr : Search) (s : State) : Bool := (nextEntry sr s).isNone

/-- Step 3: publication. -/
def publish (sr : Search) (s : State) : State :=
  setEvent .resultReady { s with se := { s.se with result := resultOf sr s, identity := identityOf sr } }

/-- Step 4: the press action of a PRESS. -/
def applyPress (sr : Search) (s : State) : State :=
  match sr.request with
  | .press p => pressActions p.mask s.se.result s
  | .motion => s

/-- Steps 3 to 7: publication, press action, re-search of a withdrawn winner, promotion, composer trigger. -/
def publishAndApply (sr : Search) (s : State) : State :=
  let s := applyPress sr (publish sr s)
  let s := if s.se.result.withdrawn then fileMotion s else s
  trigger (promote s)

/-- The engine becomes IDLE. -/
def endSearch (s : State) : State := { s with se := { s.se with search := none } }

/-- Step 8: the engine becomes IDLE; faults raised by the completion are taken, with a stop that waited for this moment (R104,
R179; log 7); a HELD head executes (R164); and R45 is examined again: with a request pending the next search is owed (log 24).
`before` is the number of faults that were raised and not yet taken. -/
def finishCompletion (held : Bool) (before : Nat) (s : State) : State :=
  let s := endSearch s
  let s := if before < s.flt.raised.length then takeFaults s.flt.raised.length s else s
  oweStart (if held then executeHead s else s)

/-- Completion (R58). -/
def completeSearch (sr : Search) (s : State) : State :=
  finishCompletion (headHeld s) s.flt.raised.length (publishAndApply sr s)

/-- SEARCH_COMPLETE (R58). With no search in flight, or an entry left to examine, no such step occurs (log 4). -/
def execSearchComplete (s : State) : Host.Outcome State Fault Refusal :=
  .next <| match s.se.search with
    | none => s
    | some sr => if searchDone sr s then completeSearch sr s else s

end Sys2Proof.Machine
end

