-- ==== Sys2Proof/Machine/Harvest.lean ====
section
/-! DEFINITION. Candidate harvest and the bank triplet (chapter 2): the harvest queue and its drops, the bank transitions, the
conversion of items into entries, and withdrawal. -/

namespace Sys2Proof.Machine

/-- The entry is a geometry item and counts against the queue's 16 places (R22). -/
def QItem.isGeometry : QItem → Bool
  | .segment _ _ _ _ _ => true
  | .circle _ _ _ _ => true
  | .start _ _ _ _ => false
  | .endMark => false
  | .discard => false

/-- How many geometry items a queue holds. -/
def geometryCount (q : List QItem) : Nat := q.countP QItem.isGeometry

/-- One more drop, saturating at 65535 (R24, R35). -/
def satInc (n : Nat) : Nat := min 65535 (n + 1)

/-- Notes a drop on the first START of a reversed queue: the queue afterwards, that frame's number, and whether this drop is the
first to mark it INCOMPLETE (R24). -/
def noteDropRev : List QItem → Option (List QItem × BitVec 32 × Bool)
  | [] => none
  | .start f c d i :: rest => some (.start f c (satInc d) true :: rest, f, !i)
  | .segment p0 p1 so o t :: rest => (noteDropRev rest).map fun r => (.segment p0 p1 so o t :: r.1, r.2)
  | .circle c ra so t :: rest => (noteDropRev rest).map fun r => (.circle c ra so t :: r.1, r.2)
  | .endMark :: rest => (noteDropRev rest).map fun r => (.endMark :: r.1, r.2)
  | .discard :: rest => (noteDropRev rest).map fun r => (.discard :: r.1, r.2)

/-- Raises QUEUE OVERRUN for a frame when `first` (R24). -/
def raiseOverrun (first : Bool) (frame : BitVec 32) (s : State) : State :=
  if first then raise .queueOverrun ((frame.setWidth 16).setWidth 20) 0 s else s

/-- A drop is recorded against the frame of an item that stood after `before` in the queue; `after` follows it. The record goes
to the last START in `before`, or, when that frame's START is taken, to the FILLING bank (R24). -/
def recordDrop (before after : List QItem) (s : State) : State :=
  match noteDropRev before.reverse with
  | some (rev, frame, first) =>
    raiseOverrun first frame { s with hv := { s.hv with queue := rev.reverse ++ after } }
  | none =>
    let s := { s with hv := { s.hv with queue := before ++ after } }
    match findBank s.hv.banks .filling with
    | none => s
    | some i =>
      let b := s.hv.banks.get i
      raiseOverrun (!b.header.incomplete) b.header.frame
        (setBanks (s.hv.banks.set i
          { b with header := { b.header with dropped := satInc b.header.dropped, incomplete := true } }) s)

/-- A geometry item arrives: appended, or dropped when 16 are queued (R22). -/
def queueItem (it : QItem) (s : State) : State :=
  if geometryCount s.hv.queue < 16 then { s with hv := { s.hv with queue := s.hv.queue ++ [it] } }
  else recordDrop s.hv.queue [] s

/-- The queue before its newest geometry item, and the markers after it. -/
def splitNewest (q : List QItem) : List QItem × List QItem :=
  let rev := q.reverse
  ((rev.dropWhile (fun x => !x.isGeometry)).tail.reverse, (rev.takeWhile (fun x => !x.isGeometry)).reverse)

/-- A marker arrives: always appended, and with 16 geometry items queued the newest of them is removed and recorded as a drop
(R23). -/
def queueMarker (m : QItem) (s : State) : State :=
  if geometryCount s.hv.queue < 16 then { s with hv := { s.hv with queue := s.hv.queue ++ [m] } }
  else recordDrop (splitNewest s.hv.queue).1 ((splitNewest s.hv.queue).2 ++ [m]) s

/-! ### Markers taken -/

/-- Any FILLING bank becomes EMPTY. -/
def releaseFilling (s : State) : State :=
  match findBank s.hv.banks .filling with
  | none => s
  | some i => setBanks (s.hv.banks.set i Bank.released) s

/-- The head of the queue leaves it. -/
def popItem (s : State) : State := { s with hv := { s.hv with queue := s.hv.queue.tail } }

/-- START (R26). -/
def takeStart (frame : BitVec 32) (centre : Pt) (drops : Nat) (incomplete : Bool) (s : State) : State :=
  let s := releaseFilling (popItem s)
  let s := { s with hv := { s.hv with lastEndpoint := none } }
  match findBank s.hv.banks .empty with
  | none => s
  | some i => setBanks (s.hv.banks.set i
      ⟨.filling, ⟨frame, centre, s.se.snap.half, drops, false, incomplete⟩, []⟩) s

/-- END (R27): the FILLING bank becomes READY, an older READY bank EMPTY, and the new one is promoted if the Search Engine is
IDLE (R29). A search that the completion before it owes has started by then, on the old CURRENT bank (R29; log 24). -/
def takeEnd (s : State) : State :=
  let s := popItem (startOwedSearch s)
  match findBank s.hv.banks .filling with
  | none => s
  | some i =>
    let t := match findBank s.hv.banks .ready with
      | none => s.hv.banks
      | some r => s.hv.banks.set r Bank.released
    let s := setBanks (t.set i { t.get i with state := .ready }) s
    if s.se.search.isNone then promote s else s

/-- DISCARD (R28). -/
def takeDiscard (s : State) : State := releaseFilling (popItem s)

/-! ### Items taken -/

/-- A box (x0, y0)–(x1, y1) shares a point with the square of half-size h about c (R30). -/
def boxMeets (c : Pt) (h : Nat) (x0 y0 x1 y1 : Int) : Bool :=
  x0 ≤ c.x + h && c.x - h ≤ x1 && y0 ≤ c.y + h && c.y - h ≤ y1

/-- The capture test (R30). -/
def captures (h : Header) : Shape → Bool
  | .point _ p => 0 ≤ p.x && p.x ≤ 4095 && 0 ≤ p.y && p.y ≤ 4095
      && (p.x - h.centre.x).natAbs ≤ h.half && (p.y - h.centre.y).natAbs ≤ h.half
  | .segment p0 p1 => boxMeets h.centre h.half (min p0.x p1.x) (min p0.y p1.y) (max p0.x p1.x) (max p0.y p1.y)
  | .circle c r => boxMeets h.centre h.half (c.x - r) (c.y - r) (c.x + r) (c.y + r)

/-- An ENDPOINT equal to the last-endpoint register is suppressed (R32). -/
def suppressed (last : Option Pt) : Shape → Bool
  | .point .endpoint p => last == some p
  | .point .midpoint _ => false
  | .point .centre _ => false
  | .point .quadrant _ => false
  | .segment _ _ => false
  | .circle _ _ => false

/-- The register after an entry is appended (R32). -/
def lastAfter (last : Option Pt) : Shape → Option Pt
  | .point .endpoint p => some p
  | .point .midpoint _ => last
  | .point .centre _ => last
  | .point .quadrant _ => last
  | .segment _ _ => last
  | .circle _ _ => last

/-- Offers one entry to the FILLING bank: it is appended when it passes the capture test and the last-endpoint rule, or
dropped when the bank holds 1024 entries, the first such drop raising BANK CROWDED (R30, R32, R35). -/
def offerEntry (e : Entry) (s : State) : State :=
  match findBank s.hv.banks .filling with
  | none => s
  | some i =>
    let b := s.hv.banks.get i
    if captures b.header e.shape = false ∨ suppressed s.hv.lastEndpoint e.shape = true then s
    else if b.entries.length < 1024 then
      let s := setBanks (s.hv.banks.set i { b with entries := b.entries ++ [e] }) s
      { s with hv := { s.hv with lastEndpoint := lastAfter s.hv.lastEndpoint e.shape } }
    else
      let s := setBanks (s.hv.banks.set i
        { b with header := { b.header with dropped := satInc b.header.dropped, crowded := true } }) s
      if b.header.crowded then s else raise .bankCrowded ((b.header.frame.setWidth 16).setWidth 20) 0 s

/-- Offers entries in order. -/
def offerEntries (l : List Entry) (s : State) : State := l.foldl (fun s e => offerEntry e s) s

/-- The entries of a SEGMENT item (R31, R34). -/
def segmentEntries (p0 p1 : Pt) (source : Span) (origin : Option Span) (tag : Half) : List Entry :=
  [⟨.point .endpoint p0, source, origin, tag, false⟩, ⟨.point .endpoint p1, source, origin, tag, false⟩]
    ++ (if p0.OnScreen ∧ p1.OnScreen then [⟨.point .midpoint (midpoint p0 p1), source, origin, tag, false⟩] else [])
    ++ [⟨.segment p0 p1, source, origin, tag, false⟩]

/-- The entries of a CIRCLE item (R33, R34). -/
def circleEntries (c : Pt) (r : Nat) (source : Span) (tag : Half) : List Entry :=
  ⟨.point .centre c, source, none, tag, false⟩ ::
    (if r = 0 then []
     else (quadrants c r).map (fun q => ⟨.point .quadrant q, source, none, tag, false⟩)
       ++ [⟨.circle c r, source, none, tag, false⟩])

/-- SEGMENT item (R31). -/
def takeSegment (p0 p1 : Pt) (source : Span) (origin : Option Span) (tag : Half) (s : State) : State :=
  offerEntries (segmentEntries p0 p1 source origin tag) (popItem s)

/-- CIRCLE item (R33). -/
def takeCircle (c : Pt) (r : Nat) (source : Span) (tag : Half) (s : State) : State :=
  offerEntries (circleEntries c r source tag) (popItem s)

/-- The head of the harvest queue, when the Harvester works: in ACTIVE (R21). -/
def harvestHead (s : State) : Option QItem := if s.port.op = .active then s.hv.queue.head? else none

/-- START_TAKEN (R26). When the head is no START, no such step occurs (log 4). -/
def execStartTaken (s : State) : Host.Outcome State Fault Refusal :=
  .next <| match harvestHead s with
    | some (.start f c d i) => takeStart f c d i s
    | _ => s

/-- END_TAKEN (R27). -/
def execEndTaken (s : State) : Host.Outcome State Fault Refusal :=
  .next <| match harvestHead s with
    | some .endMark => takeEnd s
    | _ => s

/-- DISCARD_TAKEN (R28). -/
def execDiscardTaken (s : State) : Host.Outcome State Fault Refusal :=
  .next <| match harvestHead s with
    | some .discard => takeDiscard s
    | _ => s

/-- SEGMENT_ITEM_TAKEN (R31); with no FILLING bank the item is discarded (R28). -/
def execSegmentItemTaken (s : State) : Host.Outcome State Fault Refusal :=
  .next <| match harvestHead s with
    | some (.segment p0 p1 so o t) => takeSegment p0 p1 so o t s
    | _ => s

/-- CIRCLE_ITEM_TAKEN (R33); with no FILLING bank the item is discarded (R28). -/
def execCircleItemTaken (s : State) : Host.Outcome State Fault Refusal :=
  .next <| match harvestHead s with
    | some (.circle c r so t) => takeCircle c r so t s
    | _ => s

/-! ### Withdrawal (R36, R37) -/

/-- The span contains an address; it wraps at the top of the address space (R34). -/
def Span.contains (sp : Span) (a : Addr) : Bool := (a - sp.addr).toNat < sp.len

/-- A source or origin span contains the address. -/
def spansHit (source : Span) (origin : Option Span) (a : Addr) : Bool :=
  source.contains a || (match origin with
    | none => false
    | some o => o.contains a)

/-- The entry with its withdrawn flag set when a span of it contains the address (R36). -/
def Entry.withdraw (a : Addr) (e : Entry) : Entry :=
  { e with withdrawn := e.withdrawn || spansHit e.source e.origin a }

/-- The bank's entries after a write (R36). An EMPTY bank has none. -/
def Bank.withdraw (a : Addr) (b : Bank) : Bank := { b with entries := b.entries.map (Entry.withdraw a) }

/-- The queued item survives a write (R37). -/
def QItem.survives (a : Addr) : QItem → Bool
  | .segment _ _ so o _ => !spansHit so o a
  | .circle _ _ so _ => !spansHit so none a
  | .start _ _ _ _ => true
  | .endMark => true
  | .discard => true

/-- A write handed to the Harvester (R36, R37). A CIRCLE whose head is the last word before the preview window has a span that
covers the window's first word: R36 withdraws it on a write there, and R38 says that a write into the window matches nothing. The
model follows R36 there, which is its choice (log 25). -/
def withdraw (a : Addr) (s : State) : State :=
  { s with hv := { s.hv with
      queue := s.hv.queue.filter (QItem.survives a)
      banks := s.hv.banks.map (Bank.withdraw a) } }

end Sys2Proof.Machine
end

