-- ==== Sys2Proof/Machine/Track.lean ====
section
/-! DEFINITION. Fetch tracking (chapter 1): how one read of the stroke engine is taken, frame starts, records, calls and loss of
track. -/

namespace Sys2Proof.Machine

/-- A marker DISCARD is queued if a frame is open (R14, R15). -/
def discardOpenFrame (s : State) : State := if s.trk.frameOpen then queueMarker .discard s else s

/-- The tracker goes to LOST (R15): DISCARD if a frame was open, ahead of the change of state. -/
def goLost (s : State) : State := restartTracker .lost (discardOpenFrame s)

/-- A traversal fault that loses track (R19). -/
def loseTrack (code : FaultCode) (a : Addr) (s : State) : State := goLost (raise code a 0 s)

/-- The origin that a record at `a` leaves: its span, or absent when its head word was read IN-WINDOW (R16). -/
def originAt (inWindow : Bool) (a : Addr) (len : Nat) : Option Span := if inWindow then none else some ⟨a, len⟩

/-- The geometry at hand is harvestable, given IN-WINDOW at its head word (R7). -/
def harvestable (attr : Attr) (inWindow : Bool) : Bool := !attr.inert && attr.intensity != 0 && !inWindow

/-- MOVE (R4). -/
def applyMove (a : Addr) (p : Pt) (s : State) : State :=
  setTrk { s.trk with
    current := p.add s.trk.offset, origin := originAt s.trk.inWindow a 1, expected := a + 1 } s

/-- DRAW (R4): the item, when harvestable, and then the new current point. -/
def applyDraw (a : Addr) (p : Pt) (s : State) : State :=
  let q := p.add s.trk.offset
  let t := s.trk
  let s := if harvestable t.attr t.inWindow
    then queueItem (.segment t.current q ⟨a, 1⟩ t.origin t.attr.tag) s else s
  setTrk { s.trk with current := q, origin := originAt t.inWindow a 1, expected := a + 1 } s

/-- Word 1 of the CIRCLE whose head word stood at `head` (R5). -/
def applyCircle (a head : Addr) (c : Pt) (inWindow : Bool) (w : Word) (s : State) : State :=
  let q := c.add s.trk.offset
  let t := s.trk
  let s := if harvestable t.attr inWindow
    then queueItem (.circle q (circleRadius w) ⟨head, 2⟩ t.attr.tag) s else s
  setTrk { s.trk with
    record := none, current := q, origin := originAt inWindow head 2, expected := a + 1 } s

/-- Word 1 of an accepted CALL (R8): push, add the offset, continue at the target. -/
def applyCall (head target : Addr) (w : Word) (s : State) : State :=
  setTrk { s.trk with
    record := none
    calls := ⟨head + 2, s.trk.offset, s.trk.attr⟩ :: s.trk.calls
    offset := s.trk.offset.add (callOffset w)
    expected := target } s

/-- RETURN (R9). -/
def applyReturn (a : Addr) (s : State) : State :=
  match s.trk.calls with
  | [] => loseTrack .nestUnderflow a s
  | c :: rest => setTrk { s.trk with calls := rest, offset := c.offset, attr := c.attr, expected := c.ret } s

/-- FRAME (R10): END is queued, the frame is closed, the list base is expected. -/
def applyFrame (listBase : Addr) (s : State) : State :=
  let s := queueMarker .endMark s
  setTrk { s.trk with frameOpen := false, expected := listBase } s

/-- A head word is taken (R2, R3). -/
def takeHead (listBase a : Addr) (w : Word) (s : State) : State :=
  match decodeHead w with
  | .skip => setTrk { s.trk with expected := a + 1 } s
  | .move p => applyMove a p s
  | .draw p => applyDraw a p s
  | .circle c => setTrk { s.trk with record := some (.circle a c s.trk.inWindow), expected := a + 1 } s
  | .label n => setTrk { s.trk with
      record := if n = 0 then none else some (.label a ((n + 3) / 4)), expected := a + 1 } s
  | .entity attr => setTrk { s.trk with attr := attr, expected := a + 1 } s
  | .call target =>
    if s.trk.calls.length < 8 then setTrk { s.trk with record := some (.call a target), expected := a + 1 } s
    else loseTrack .nestOverflow a s
  | .ret => applyReturn a s
  | .jump target => setTrk { s.trk with expected := target } s
  | .frame => applyFrame listBase s
  | .unknown => loseTrack .unknownRecord a s

/-- A word is taken while TRACKING (R2, R3): its address becomes the last word address. -/
def takeWord (listBase a : Addr) (w : Word) (s : State) : State :=
  let s := setTrk { s.trk with lastWord := a } s
  match s.trk.record with
  | none => takeHead listBase a w s
  | some (.circle head c inWindow) => applyCircle a head c inWindow w s
  | some (.call head target) => applyCall head target w s
  | some (.label head left) => setTrk { s.trk with
      record := if left ≤ 1 then none else some (.label head (left - 1)), expected := a + 1 } s

/-- The address lies in the preview window or in the status pane (R16). -/
def inRegions (s : State) (a : Addr) : Bool := (windowOffset s a).isSome || (paneIndex s.port.strap a).isSome

/-- Sets or clears IN-WINDOW for the read being taken (R16). -/
def markInWindow (a : Addr) (s : State) : State := setTrk { s.trk with inWindow := inRegions s a } s

/-- A frame start at the list base, with the list-base word (R13). -/
def frameStart (listBase : Addr) (w : Word) (s : State) : State :=
  let s := setTrk { s.trk with
    frames := s.trk.frames + 1
    calls := []
    offset := ⟨0, 0⟩
    current := ⟨0, 0⟩
    origin := none
    attr := ⟨7, false, 0⟩
    record := none
    frameOpen := true } s
  let s := patternStep s
  let s := queueMarker (.start s.trk.frames s.cu.pos 0 false) s
  let s := setTrk { s.trk with state := .tracking } s
  takeWord listBase listBase w (markInWindow listBase s)

/-- A list-base read while TRACKING (R14, steps 1 and 2): an open frame is aborted first. -/
def abortFrame (s : State) : State :=
  if s.trk.frameOpen then queueMarker .discard (raise .frameAborted s.trk.lastWord 0 s) else s

/-- A read copied to the tracker (R1, R14, R15), with the list base in force. -/
def trackRead (listBase a : Addr) (w : Word) (s : State) : State :=
  match s.trk.state with
  | .halted => s
  | .waiting => if a = listBase then frameStart listBase w s else s
  | .lost => if a = listBase then frameStart listBase w s else s
  | .tracking =>
    if a = listBase then frameStart listBase w (abortFrame s)
    else if a ≠ s.trk.expected then loseTrack .trackLost a s
    else takeWord listBase a w (markInWindow a s)

/-- The tracker's answer to a LOCATE (R18, R187). -/
def locateAnswer (t : Tracker) : Locate :=
  if t.state = .tracking then .known t.current t.calls.length t.attr.tag else .unknown

end Sys2Proof.Machine
end

