-- ==== Sys2Proof/Machine/Transfers.lean ====
section
/-! DEFINITION. The Transit Port (chapter 9): every write and read of the bus, its forwarding or answer, and the blocks it is
handed to. A transfer is taken whole, as one event (R146). -/

namespace Sys2Proof.Machine

/-- The bus pins after a transfer. -/
def setBus (d : Option Downstream) (u : Option Word) (s : State) : State := { s with bus := ⟨d, u⟩ }

/-! ### Writes (R148) -/

/-- The part hands writes on in PASSIVE, ACTIVE and BYPASS (R148). -/
def observesWrites (s : State) : Bool := s.port.op == .passive || s.port.op == .active || s.port.op == .bypass

/-- The mailbox part of a write outside the strap block, in ACTIVE and BYPASS (R83, R148). -/
def handMailbox (a : Addr) (w : Word) (s : State) : State :=
  if s.port.op = .active ∨ s.port.op = .bypass then
    match s.port.config with
    | none => s
    | some m =>
      match m.mailboxPlace a with
      | none => s
      | some (record, word) => mailboxWrite m.records record word w s
  else s

/-- A write inside the strap block, by its offset (R148, R159, R160): a slot's word 0 posts, its other words go to the shadow,
and a pane word goes to nobody. -/
def handStrap (offset : Nat) (w : Word) (s : State) : State :=
  if offset < 128 then
    if offset % 8 = 0 then postSlot (BitVec.ofNat 4 (offset / 8)) w s
    else writeShadow (offset / 8) (offset % 8) w s
  else s

/-- What a write is handed to (R148). -/
def handWrite (a : Addr) (w : Word) (s : State) : State :=
  if observesWrites s then
    match strapOffset s.port.strap a with
    | some o => handStrap o w s
    | none => withdraw a (handMailbox a w s)
  else s

/-- A write transfer (R148): forwarded unchanged in every state, and handed on. -/
def takeWrite (a : Addr) (w : Word) (s : State) : State := handWrite a w (setBus (some (.write a w)) none s)

/-- A write to an address of the strap block by its offset; with strap value 63 there is no such address, and so no such write
(R147; log 4). -/
def writeStrap (offset : Nat) (w : Word) (s : State) : State :=
  match strapBase s.port.strap with
  | none => s
  | some b => takeWrite (BitVec.ofNat 20 (b + offset)) w s

/-- A write to a word of a mailbox record; with no configuration held, or a record at or past the record count, there is no such
address, and so no such write (R83; log 4). -/
def writeMailbox (record word : Nat) (w : Word) (s : State) : State :=
  match s.port.config with
  | none => s
  | some m =>
    if record < m.records then takeWrite (BitVec.ofNat 20 (m.mailboxBase.toNat + 4 * record + word)) w s else s

/-- SLOT_ARGUMENT_WRITE (R159). -/
def execSlotArgumentWrite (slot : BitVec 4) (word : BitVec 3) (data : Word) (s : State) :
    Host.Outcome State Fault Refusal :=
  .next (writeStrap (8 * slot.toNat + word.toNat) data s)

/-- DIRECTIVE_POSTING (R160). -/
def execDirectivePosting (slot : BitVec 4) (data : Word) (s : State) : Host.Outcome State Fault Refusal :=
  .next (writeStrap (8 * slot.toNat) data s)

/-- PANE_WRITE (R148): forwarded, and nothing more. -/
def execPaneWrite (word : BitVec 6) (data : Word) (s : State) : Host.Outcome State Fault Refusal :=
  .next (writeStrap (128 + word.toNat) data s)

/-- MAILBOX_WORD_WRITE (R83): like every write outside the strap block it is handed to the Harvester too (R148). -/
def execMailboxWordWrite (record : BitVec 5) (word : BitVec 2) (data : Word) (s : State) :
    Host.Outcome State Fault Refusal :=
  .next (writeMailbox record.toNat word.toNat data s)

/-- SAMPLE (R84): the status write to word 3 of a record. -/
def execSample (record : BitVec 5) (status : Word) (s : State) : Host.Outcome State Fault Refusal :=
  .next (writeMailbox record.toNat 3 status s)

/-- WITHDRAWAL_WRITE (R36): a write at any address; where the address lies in the mailbox the Cursor Unit sees it too. -/
def execWithdrawalWrite (addr : Addr) (data : Word) (s : State) : Host.Outcome State Fault Refusal :=
  .next (takeWrite addr data s)

/-! ### Reads (R149, R150) -/

/-- A read answered by memory (R146). -/
def forwardRead (a : Addr) (mem : Word) (s : State) : State := setBus (some (.read a)) (some mem) s

/-- A read the part answers itself; memory does not see it (R149). -/
def answerRead (w : Word) (s : State) : State := setBus none (some w) s

/-- The pane answers reads in PASSIVE, ACTIVE and BYPASS (R149). -/
def paneAnswers (s : State) : Bool := s.port.op == .passive || s.port.op == .active || s.port.op == .bypass

/-- Who masters a transfer (R146). -/
inductive Tag where
  | host
  | stroke
  | input
  | other
deriving DecidableEq, Repr

/-- What a read with the tag HOST, INPUT or OTHER, or one that changes nothing, is answered (R149, R128, R169): the pane word
(with the latches for HOST), the serving list's word in ACTIVE, or the memory word. -/
def readAnswer (tag : Tag) (a : Addr) (mem : Word) (s : State) : Word :=
  match (if paneAnswers s then paneIndex s.port.strap a else none) with
  | some k => if tag = .host then hostPaneWord s k else paneWord s k
  | none =>
    match (if s.port.op = .active then windowOffset s a else none) with
    | some k => s.comp.serving.wordOr k
    | none => mem

/-- The answer of a STROKE read in ACTIVE, with the composer's part of it (R127 to R130, R150). -/
def strokeAnswer (a : Addr) (mem : Word) (s : State) : State :=
  match windowOffset s a with
  | some k => answerRead (strokeWindow k s).2 (strokeWindow k s).1
  | none =>
    match paneIndex s.port.strap a with
    | some k => answerRead (paneWord s k) (leaveWindow s)
    | none => forwardRead a mem (leaveWindow s)

/-- The watch matches the read (R186). -/
def Watch.hits (w : Watch) (a : Addr) : Bool := w.on && w.addr == a

/-- A watch with action FREEZE matches the read. -/
def freezeHits (a : Addr) (s : State) : Bool :=
  (s.flt.watches.e0.hits a && s.flt.watches.e0.action == .freeze)
    || (s.flt.watches.e1.hits a && s.flt.watches.e1.action == .freeze)

/-- The locate record after a LOCATE match (R186, R187). -/
def locateAfter (w : Watch) (t : Tracker) (l : Locate) : Locate := if w.action = .locate then locateAnswer t else l

/-- A match of watch 0 (R186). -/
def matchWatch0 (a : Addr) (s : State) : State :=
  if s.flt.watches.e0.hits a then
    let s := setEvent .watch0 s
    { s with flt := { s.flt with locates :=
      { s.flt.locates with e0 := locateAfter s.flt.watches.e0 s.trk s.flt.locates.e0 } } }
  else s

/-- A match of watch 1 (R186). -/
def matchWatch1 (a : Addr) (s : State) : State :=
  if s.flt.watches.e1.hits a then
    let s := setEvent .watch1 s
    { s with flt := { s.flt with locates :=
      { s.flt.locates with e1 := locateAfter s.flt.watches.e1 s.trk s.flt.locates.e1 } } }
  else s

/-- The watches' part of a copied read (R186): flags, locate records and the freeze. -/
def matchWatches (a : Addr) (s : State) : State :=
  let s := matchWatch1 a (matchWatch0 a s)
  if freezeHits a s then setFrozen true s else s

/-- A watch freeze meets the latch or the frame-start step of the same read (R131, R144). -/
def freezeMeets (a : Addr) (s : State) : Bool :=
  freezeHits a s && !s.pat.frozen &&
    match s.port.config with
    | none => false
    | some m => m.windowBase == a || m.listBase == a

/-- Where a watch freeze meets the latch or the frame-start step, either may be taken first: a free choice (log 9). -/
def chooseFreeze (a : Addr) (s : State) : State :=
  if freezeMeets a s then
    let s' := { s with orderChoices := s.orderChoices + 1 }
    if Config.freezeFirst s.orderChoices then setFrozen true s' else s'
  else s

/-- The answered read is copied to the Fetch Tracker (R150). -/
def copyToTracker (a : Addr) (s : State) : State :=
  match s.port.config with
  | none => s
  | some m => trackRead m.listBase a (s.bus.upstream.getD 0) s

/-- STROKE_READ (R149, R150). In ACTIVE the answer is settled, and then the read is copied with it to the tracker and the
watches. -/
def execStrokeRead (addr : Addr) (mem : Word) (s : State) : Host.Outcome State Fault Refusal :=
  .next <| match s.port.op with
    | .disabled => forwardRead addr mem s
    | .transparent => forwardRead addr mem s
    | .passive => answerOrForward addr mem s
    | .bypass => answerOrForward addr mem s
    | .active => matchWatches addr (copyToTracker addr (strokeAnswer addr mem (chooseFreeze addr s)))
where
  /-- A read in PASSIVE or BYPASS: the pane answers, everything else is forwarded (R149). -/
  answerOrForward (a : Addr) (mem : Word) (s : State) : State :=
    match paneIndex s.port.strap a with
    | some k => answerRead (paneWord s k) s
    | none => forwardRead a mem s

/-! ### HOST reads of the latched records (R171 to R173) -/

/-- A HOST read of pane word k: where the pane answers, `act` follows the answer; otherwise the read is forwarded. With strap
value 63 there is no pane address, and so no such read (R147; log 4). -/
def hostPaneRead (k : Nat) (mem : Word) (act : State → State) (s : State) : State :=
  match strapBase s.port.strap with
  | none => s
  | some b =>
    if paneAnswers s then act (answerRead (hostPaneWord s k) s)
    else forwardRead (BitVec.ofNat 20 (b + 128 + k)) mem s

/-- The result latch takes a fresh copy (R171). -/
def openResultLatch (s : State) : State := { s with pane := { s.pane with resultLatch := some s.se.result } }

/-- The result latch closes and RESULT READY is cleared (R171, R172). -/
def closeResultLatch (s : State) : State :=
  clearEventMask Event.resultReady.bit { s with pane := { s.pane with resultLatch := none } }

/-- The commit latch takes a fresh copy (R171). -/
def openCommitLatch (s : State) : State := { s with pane := { s.pane with commitLatch := some s.band.commit } }

/-- The commit latch closes and COMMIT READY is cleared (R171, R172). -/
def closeCommitLatch (s : State) : State :=
  clearEventMask Event.commitReady.bit { s with pane := { s.pane with commitLatch := none } }

/-- The peek latch takes a fresh copy (R173). -/
def openPeekLatch (s : State) : State := { s with pane := { s.pane with peekLatch := some (livePeek s) } }

/-- An open peek latch closes and the pointer advances, up to 1024; a closed one changes nothing (R173). -/
def closePeekLatch (s : State) : State :=
  match s.pane.peekLatch with
  | none => s
  | some p => { s with pane := { s.pane with peekLatch := none, peek := min 1024 (p.pointer + 1) } }

/-- RESULT_LATCH_OPEN (R171). -/
def execResultLatchOpen (mem : Word) (s : State) : Host.Outcome State Fault Refusal :=
  .next (hostPaneRead 10 mem openResultLatch s)

/-- RESULT_LAST_WORD_READ (R172). -/
def execResultLastWordRead (mem : Word) (s : State) : Host.Outcome State Fault Refusal :=
  .next (hostPaneRead 17 mem closeResultLatch s)

/-- COMMIT_LATCH_OPEN (R171). -/
def execCommitLatchOpen (mem : Word) (s : State) : Host.Outcome State Fault Refusal :=
  .next (hostPaneRead 18 mem openCommitLatch s)

/-- COMMIT_LAST_WORD_READ (R172). -/
def execCommitLastWordRead (mem : Word) (s : State) : Host.Outcome State Fault Refusal :=
  .next (hostPaneRead 21 mem closeCommitLatch s)

/-- PEEK_LATCH_OPEN (R173). -/
def execPeekLatchOpen (mem : Word) (s : State) : Host.Outcome State Fault Refusal :=
  .next (hostPaneRead 43 mem openPeekLatch s)

/-- PEEK_LAST_WORD_READ (R173). -/
def execPeekLastWordRead (mem : Word) (s : State) : Host.Outcome State Fault Refusal :=
  .next (hostPaneRead 46 mem closePeekLatch s)

end Sys2Proof.Machine
end

