-- ==== Sys2Proof/Machine/Dispatch.lean ====
section
/-! DEFINITION. What each command does: one arm per constructor of Instr. -/

namespace Sys2Proof.Machine

/-- The command's effect on everything but the queue of waiting commands. -/
def exec (i : Instr) (s : State) : Host.Outcome State Fault Refusal :=
  match i with
  | .powerOn straps pinHeld => Sys2Proof.Machine.execPowerOn straps pinHeld s
  | .resetPinAsserted => Sys2Proof.Machine.execResetPinAsserted s
  | .resetPinReleased straps => Sys2Proof.Machine.execResetPinReleased straps s
  | .strokeRead addr mem => Sys2Proof.Machine.execStrokeRead addr mem s
  | .channelReload ch => Sys2Proof.Machine.execChannelReload ch s
  | .dashPhaseWrap => Sys2Proof.Machine.execDashPhaseWrap s
  | .resultLatchOpen mem => Sys2Proof.Machine.execResultLatchOpen mem s
  | .resultLastWordRead mem => Sys2Proof.Machine.execResultLastWordRead mem s
  | .commitLatchOpen mem => Sys2Proof.Machine.execCommitLatchOpen mem s
  | .commitLastWordRead mem => Sys2Proof.Machine.execCommitLastWordRead mem s
  | .peekLatchOpen mem => Sys2Proof.Machine.execPeekLatchOpen mem s
  | .peekLastWordRead mem => Sys2Proof.Machine.execPeekLastWordRead mem s
  | .slotArgumentWrite slot word data => Sys2Proof.Machine.execSlotArgumentWrite slot word data s
  | .directivePosting slot data => Sys2Proof.Machine.execDirectivePosting slot data s
  | .mailboxWordWrite record word data => Sys2Proof.Machine.execMailboxWordWrite record word data s
  | .sample record status => Sys2Proof.Machine.execSample record status s
  | .withdrawalWrite addr data => Sys2Proof.Machine.execWithdrawalWrite addr data s
  | .paneWrite word data => Sys2Proof.Machine.execPaneWrite word data s
  | .startTaken => Sys2Proof.Machine.execStartTaken s
  | .endTaken => Sys2Proof.Machine.execEndTaken s
  | .discardTaken => Sys2Proof.Machine.execDiscardTaken s
  | .segmentItemTaken => Sys2Proof.Machine.execSegmentItemTaken s
  | .circleItemTaken => Sys2Proof.Machine.execCircleItemTaken s
  | .searchStart => Sys2Proof.Machine.execSearchStart s
  | .entryExamined => Sys2Proof.Machine.execEntryExamined s
  | .searchComplete => Sys2Proof.Machine.execSearchComplete s
  | .passEnd => Sys2Proof.Machine.execPassEnd s
  | .faultTaken => Sys2Proof.Machine.execFaultTaken s
  | .configure => Sys2Proof.Machine.execConfigure s
  | .restart => Sys2Proof.Machine.execRestart s
  | .resume => Sys2Proof.Machine.execResume s
  | .setResponses => Sys2Proof.Machine.execSetResponses s
  | .clearFaults => Sys2Proof.Machine.execClearFaults s
  | .setWatch => Sys2Proof.Machine.execSetWatch s
  | .freeze => Sys2Proof.Machine.execFreeze s
  | .thaw => Sys2Proof.Machine.execThaw s
  | .setBlink => Sys2Proof.Machine.execSetBlink s
  | .setInput => Sys2Proof.Machine.execSetInput s
  | .setCursor => Sys2Proof.Machine.execSetCursor s
  | .setButtons => Sys2Proof.Machine.execSetButtons s
  | .setSnap => Sys2Proof.Machine.execSetSnap s
  | .setGrid => Sys2Proof.Machine.execSetGrid s
  | .loadDirections => Sys2Proof.Machine.execLoadDirections s
  | .continueDirections => Sys2Proof.Machine.execContinueDirections s
  | .setConstraint => Sys2Proof.Machine.execSetConstraint s
  | .setAnchor => Sys2Proof.Machine.execSetAnchor s
  | .clearAnchor => Sys2Proof.Machine.execClearAnchor s
  | .trailAppend => Sys2Proof.Machine.execTrailAppend s
  | .trailDrop => Sys2Proof.Machine.execTrailDrop s
  | .trailClear => Sys2Proof.Machine.execTrailClear s
  | .setBand => Sys2Proof.Machine.execSetBand s
  | .setStyle => Sys2Proof.Machine.execSetStyle s
  | .setNotify => Sys2Proof.Machine.execSetNotify s
  | .clearEvents => Sys2Proof.Machine.execClearEvents s
  | .setPeek => Sys2Proof.Machine.execSetPeek s
  | .unknownKind => Sys2Proof.Machine.execUnknownKind s

end Sys2Proof.Machine
end

