-- ==== Sys2Proof/Safety.lean ====
section
/-! DEFINITION. What holds of every state the part can stand in: the invariants that the chapters state of its banks, its
band, its counters, its lists, its searches and its operating states. -/

namespace Sys2Proof.Machine

/-- R25: at most one bank is FILLING, at most one READY, at most one CURRENT; a bank holds at most 1024 entries, and an EMPTY
bank none. -/
structure BanksOk (s : State) : Prop where
  oneEach : ∀ st, st ≠ BankState.empty → ∀ i j, (s.hv.banks.get i).state = st → (s.hv.banks.get j).state = st → i = j
  capacity : ∀ i, (s.hv.banks.get i).entries.length ≤ 1024
  released : ∀ i, (s.hv.banks.get i).state = BankState.empty → (s.hv.banks.get i).entries = []

/-- R98, R99, R103: the trail holds at most 32 vertices, a LINKED anchor equals the newest of them, and the anchor, the vertices,
the committed point and the result point lie on the screen. -/
structure BandOk (s : State) : Prop where
  length : s.band.trail.length ≤ 32
  linked : ∀ p, s.band.anchor = some ⟨p, true⟩ → s.band.trail.getLast? = some p
  anchor : ∀ a, s.band.anchor = some a → a.point.OnScreen
  trail : ∀ p ∈ s.band.trail, p.OnScreen
  commit : s.band.commit.point.OnScreen
  result : s.se.result.point.OnScreen

/-- R112, R134, R139: the blink settings and counters are 8-bit values, the two outputs agree in CASCADE mode, the band settings
stay in their ranges, and φ stays within 0..P − 1 while P is at least 2. -/
structure PatternOk (s : State) : Prop where
  settings : s.pat.a.reload ≤ 255 ∧ s.pat.a.compare ≤ 255 ∧ s.pat.b.reload ≤ 255 ∧ s.pat.b.compare ≤ 255
  counts : s.pat.a.count ≤ 255 ∧ s.pat.b.count ≤ 255
  cascade : s.pat.cascade = true → s.pat.a.out = s.pat.b.out
  period : s.band.period = 0 ∨ (2 ≤ s.band.period ∧ s.band.period ≤ 255)
  onLen : s.band.onLen ≤ 255
  phase : 2 ≤ s.band.period → s.pat.phase ≤ s.band.period - 1
  phaseRange : s.pat.phase ≤ 254

/-! ### Regions (R147, R153, R154) -/

/-- The map of an accepted CONFIGURE (R153). -/
def RegionMap.Formed (m : RegionMap) : Prop :=
  32 ≤ m.windowLen ∧ m.windowLen ≤ 1024 ∧ m.windowLen % 16 = 0 ∧ 4 ≤ m.records ∧ m.records ≤ 32
    ∧ m.listBase.toNat % 16 = 0 ∧ m.windowBase.toNat % 16 = 0 ∧ m.mailboxBase.toNat % 16 = 0

/-- An address of the preview window. -/
def RegionMap.InWindow (m : RegionMap) (a : Nat) : Prop := m.windowBase.toNat ≤ a ∧ a < m.windowBase.toNat + m.windowLen

/-- An address of the sample mailbox. -/
def RegionMap.InMailbox (m : RegionMap) (a : Nat) : Prop :=
  m.mailboxBase.toNat ≤ a ∧ a < m.mailboxBase.toNat + 4 * m.records

/-- An address of the strap block; strap value 63 places none (R147). -/
def InStrapBlock (strap : BitVec 6) (a : Nat) : Prop :=
  strap ≠ 63#6 ∧ strap.toNat * 0x4000 ≤ a ∧ a < strap.toNat * 0x4000 + 192

/-- The address lies in the preview window or in the status pane: a read of it sets IN-WINDOW (R16). -/
def InRegions (m : RegionMap) (s : State) (a : Addr) : Prop :=
  m.InWindow a.toNat ∨ (InStrapBlock s.port.strap a.toNat ∧ s.port.strap.toNat * 0x4000 + 0x80 ≤ a.toNat)

/-- The window, the mailbox or the list base meets the strap block placed by a strap value (R154, R157). -/
def RegionMap.Meets (m : RegionMap) (strap : BitVec 6) : Prop :=
  ∃ a, InStrapBlock strap a ∧ (m.InWindow a ∨ m.InMailbox a ∨ a = m.listBase.toNat)

/-- No test of R154 refuses the map. -/
structure RegionMap.Fits (m : RegionMap) (strap : BitVec 6) : Prop where
  strapFree : ¬ m.Meets strap
  apart : ∀ a, ¬ (m.InWindow a ∧ m.InMailbox a)
  listOutside : ¬ m.InWindow m.listBase.toNat ∧ ¬ m.InMailbox m.listBase.toNat
  windowEnds : m.windowBase.toNat + m.windowLen ≤ 0x100000
  mailboxEnds : m.mailboxBase.toNat + 4 * m.records ≤ 0x100000

/-- A configuration is held, as an accepted CONFIGURE formed and placed it. -/
structure Placed (m : RegionMap) (s : State) : Prop where
  held : s.port.config = some m
  formed : m.Formed
  fits : m.Fits s.port.strap

/-! ### Invariants of the blocks, continued -/

/-- R8, R22, R42, R80, R85, R153, R154, R162, R173: the queues, the pointers and the call stack (with a call in progress) stay
within their capacities, and a held region map is one that CONFIGURE forms and places. -/
structure CapacityOk (s : State) : Prop where
  geometry : geometryCount s.hv.queue ≤ 16
  presses : s.se.presses.length ≤ 4
  directives : s.dir.queue.length ≤ 16
  continuation : ∀ k, s.dir.continuation = some k → 1 ≤ k ∧ k ≤ 16
  peek : s.pane.peek ≤ 1024
  peekCopy : ∀ p, s.pane.peekLatch = some p → p.pointer ≤ 1024
  calls : s.trk.calls.length ≤ 8
  openCall : ∀ a t, s.trk.record = some (.call a t) → s.trk.calls.length < 8
  map : ∀ m, s.port.config = some m → m.Formed ∧ m.Fits s.port.strap
  ring : s.cu.ring < 32 ∧ ∀ m, s.port.config = some m → s.cu.ring < m.records

/-- R12, R15, R40, R60, R117, R142, R151, R168, R177: what each operating state says of the blocks. That no fault waits in DISABLED
and TRANSPARENT is the model's choice (log 8). -/
structure ModeOk (s : State) : Prop where
  /-- Outside ACTIVE nothing is harvested, searched, requested, composed or frozen, and the tracker is HALTED. -/
  outside : s.port.op ≠ .active → s.hv = Harvester.emptied ∧ s.se.presses = [] ∧ s.se.motion = false ∧ s.se.search = none
    ∧ s.comp = s.comp.cleared ∧ s.pat.frozen = false ∧ s.trk.state = .halted
  active : s.port.op = .active → s.trk.state ≠ .halted ∧ s.port.config.isSome = true ∧ s.port.strap ≠ 63#6
  passive : s.port.op = .passive → s.port.config = none ∧ s.port.strap ≠ 63#6
  bypass : s.port.op = .bypass → s.port.config.isSome = true ∧ s.port.strap ≠ 63#6
  disabled : s.port.op = .disabled → s.port.strap = 63#6
  /-- In DISABLED and TRANSPARENT no flag is set, no latch is open and no directive is queued; and no fault waits, which is the
  model's choice (log 8). -/
  silent : s.port.op = .disabled ∨ s.port.op = .transparent → s.pane.flags = 0 ∧ s.pane.resultLatch = none
    ∧ s.pane.commitLatch = none ∧ s.pane.peekLatch = none ∧ s.dir.queue = [] ∧ s.flt.raised = []
  /-- Only a TRACKING tracker has a frame open, a call open, a record in progress or IN-WINDOW set. -/
  tracker : s.trk.state ≠ .tracking → s.trk.frameOpen = false ∧ s.trk.calls = [] ∧ s.trk.record = none
    ∧ s.trk.inWindow = false

/-- A composed record stays on the screen (R114). -/
def Rec.Ok : Rec → Prop
  | .entity i => i ≤ 7
  | .move p => p.OnScreen
  | .draw p => p.OnScreen
  | .circle c r => c.OnScreen ∧ r ≤ 4095
  | .ret => True

/-- A list of R114 for a window of `limit` words: it ends in its single RETURN, fits, and stays on the screen. -/
structure Composed.Ok (limit : Nat) (c : Composed) : Prop where
  recs : ∀ r ∈ c.recs, r.Ok
  ends : ∃ l, c.recs = l ++ [Rec.ret] ∧ Rec.ret ∉ l
  fits : c.length ≤ limit
  shed : c.shedCount ≤ 31

/-- Style settings in the ranges of R132. -/
def Style.Ok (y : Style) : Prop :=
  1 ≤ y.arm ∧ y.arm ≤ 1024 ∧ 2 ≤ y.markerHalf ∧ y.markerHalf ≤ 64 ∧ y.cursorIntensity ≤ 7 ∧ y.markerIntensity ≤ 7
    ∧ y.bandIntensity ≤ 7

/-- The inputs of a pass, on the screen and for a window of `limit` words. -/
structure PassInputs.Ok (limit : Nat) (i : PassInputs) : Prop where
  cursor : i.cursor.OnScreen
  result : i.resultPoint.OnScreen
  anchor : ∀ a, i.anchor = some a → a.OnScreen
  trail : ∀ p ∈ i.trail, p.OnScreen
  vertices : i.trail.length ≤ 32
  style : i.style.Ok
  window : i.windowLen = limit

/-- The window length of the configuration in force, 256 where none is held (log 17). -/
def windowLimit (s : State) : Nat := (s.port.config.map RegionMap.windowLen).getD 256

/-- R114: both lists, and the pass in progress, are as a pass can build them; with what a pass reads (R98, R132). -/
structure DrawnOk (s : State) : Prop where
  limit : 32 ≤ windowLimit s
  staged : s.comp.staged.Ok (windowLimit s)
  serving : s.comp.serving.Ok (windowLimit s)
  pass : ∀ i, s.comp.pass = some i → i.Ok (windowLimit s)
  style : s.comp.style.Ok
  cursor : s.cu.pos.OnScreen
  band : BandOk s

/-- A contender carries the squared distance of its own point (R51). -/
def Contender.Measured (cursor : Pt) (c : Contender) : Prop := c.d2 = dist2 c.point cursor

/-- R46, R51: the search in flight holds the CURRENT bank, and every contender it keeps lies within its aperture. A start is owed
only while the engine is IDLE with a request pending (R29; log 24). -/
structure SearchOk (s : State) : Prop where
  bank : ∀ sr, s.se.search = some sr → sr.bank = findBank s.hv.banks .current
  cursor : ∀ sr, s.se.search = some sr → sr.cursor.OnScreen
  aperture : ∀ sr, s.se.search = some sr → 1 ≤ sr.aperture ∧ sr.aperture ≤ 255 ∧ sr.margin ≤ 64
  kept : ∀ sr, s.se.search = some sr → ∀ c ∈ sr.kept, c.Measured sr.cursor ∧ c.d2 ≤ sr.aperture * sr.aperture
  hold : ∀ sr, s.se.search = some sr → ∀ c, sr.hold = some c → c.Measured sr.cursor
  presses : ∀ p ∈ s.se.presses, p.point.OnScreen
  position : s.cu.pos.OnScreen
  owed : s.se.startOwed = true → s.se.search = none ∧ (s.se.presses ≠ [] ∨ s.se.motion = true)
  settings : 1 ≤ s.se.snap.aperture ∧ s.se.snap.aperture ≤ 255 ∧ s.se.snap.margin ≤ 64

/-! ### Terms of the statements -/

/-- The states in which the part takes writes, answers the pane and executes directives (R148, R149, R163). -/
def Observes (s : State) : Prop := s.port.op = .passive ∨ s.port.op = .active ∨ s.port.op = .bypass

/-- A directive of a kind code stands at the head of the queue, in a state in which directives execute (R163). -/
def AtHead (code : BitVec 8) (e : DirEntry) (rest : List DirEntry) (s : State) : Prop :=
  s.dir.queue = e :: rest ∧ e.kind = code ∧ Observes s

/-- What an execution leaves besides its owner's effect `t`, for an accepted directive (R163, R167, R168): progress, the
queue's rest, and DRAINED (bit 8) when that is empty. -/
def accepted (e : DirEntry) (rest : List DirEntry) (t : State) : State :=
  { t with
    dir := { t.dir with queue := rest, progress := ⟨t.dir.progress.count + 1, e.slot, e.kind, e.tag, none⟩ }
    pane := { t.pane with flags := if rest = [] then t.pane.flags ||| 0x100#9 else t.pane.flags } }

/-- What an execution leaves for a refused directive (R163, R165 to R168): as for an accepted one, with the reason in progress,
REFUSED (bit 7) set, and fault 32 raised with the reason and the tag. -/
def refused (e : DirEntry) (rest : List DirEntry) (r : Reason) (s : State) : State :=
  { s with
    dir := { s.dir with queue := rest, progress := ⟨s.dir.progress.count + 1, e.slot, e.kind, e.tag, some r⟩ }
    pane := { s.pane with flags := if rest = [] then s.pane.flags ||| 0x180#9 else s.pane.flags ||| 0x080#9 }
    flt := { s.flt with raised := s.flt.raised ++ [⟨.refused, BitVec.ofNat 20 r.number, e.tag⟩] } }

/-- The tracker after a reset (R20), in the state and with the expected address that the reset gives it. -/
def TrackerFresh (st : TrackState) (expected : Addr) (k : Tracker) : Prop :=
  k = ⟨st, false, expected, none, 0, ⟨0, 0⟩, none, ⟨0, 0⟩, ⟨7, false, 0⟩, [], false, 0⟩

/-- The banks, the harvest queue and the raised faults after a STROKE read at `a` are those of `q`, which is what the word taken
makes of the state `s` before the read. A read of the window raises the WINDOW faults of its answer ahead of them (R129, R130). -/
structure Leaves (m : RegionMap) (a : Addr) (s q t : State) : Prop where
  harvest : t.hv = q.hv
  raised : ∃ v l, q.flt.raised = s.flt.raised ++ l ∧ t.flt.raised = s.flt.raised ++ v ++ l
    ∧ (∀ f ∈ v, f.code.classNumber = 5) ∧ (¬ m.InWindow a.toNat → v = [])

/-- What a STROKE read in ACTIVE off the list base does apart from the tracker and the harvest queue (R128, R149, R150, R169): how
it is answered, and what it leaves of the other blocks. The answer from the window, the watches and the frozen condition have
statements of their own. -/
structure ReadAnswered (m : RegionMap) (a : Addr) (mem : Word) (s t : State) : Prop where
  /-- A pane word is answered from live state, and memory does not see the read. -/
  pane : ∀ k < 64, s.port.strap ≠ 63#6 → a.toNat = s.port.strap.toNat * 0x4000 + 0x80 + k → t.bus = ⟨none, some (paneWord s k)⟩
  /-- Any other read outside the window, a read of a directive slot included, is forwarded and answered by memory. -/
  memory : ¬ InRegions m s a → t.bus = ⟨some (.read a), some mem⟩
  inWindow : m.InWindow a.toNat → t.bus.downstream = none
    ∧ t.comp = { s.comp with serving := t.comp.serving, entered := true }
  /-- A read outside the window, of a pane word too, clears window entered and changes nothing else of the composer. -/
  outside : ¬ m.InWindow a.toNat → t.comp = { s.comp with entered := false }
  pattern : t.pat = { s.pat with frozen := t.pat.frozen }
  order : a ≠ m.windowBase → t.orderChoices = s.orderChoices
  faults : t.flt = { s.flt with raised := t.flt.raised, locates := t.flt.locates }
  flags : t.pane = { s.pane with flags := t.pane.flags }
  rest : t.port = s.port ∧ t.se = s.se ∧ t.cu = s.cu ∧ t.band = s.band ∧ t.dir = s.dir ∧ t.pending = s.pending

/-- What a traversal fault of the word at address `a` leaves of the tracker and the harvest queue (R15): LOST, with a DISCARD
queued for an open frame. `last` is the last word address. -/
structure LosesTrack (m : RegionMap) (code : FaultCode) (a last : Addr) (s t : State) : Prop where
  tracker : t.trk = { s.trk with
    state := .lost, frameOpen := false, record := none, lastWord := last, calls := [], inWindow := false }
  raised : ⟨code, a, 0⟩ ∈ t.flt.raised
  closed : s.trk.frameOpen = false → t.hv = s.hv
  discard : s.trk.frameOpen = true → t.hv = (queueMarker .discard s).hv
  room : s.trk.frameOpen = true → geometryCount s.hv.queue < 16 →
    t.hv = { s.hv with queue := s.hv.queue ++ [.discard] }
  leaves : ∀ q, q = { s with flt := { s.flt with raised := s.flt.raised ++ [⟨code, a, 0⟩] } } →
    Leaves m a s (if s.trk.frameOpen then queueMarker .discard q else q) t

/-- What every warm reset, RESTART and the holding of the RESET pin do to the blocks that behave alike under all three: working
state to its reset values, settings and watches kept (R40, R62, R82, R97, R113, R133, R142, R168, R177, R188), and the model's own owed start clear (log 24). -/
structure Cleared (s t : State) : Prop where
  bus : t.bus = s.bus
  harvest : t.hv = ⟨[], ⟨Bank.released, Bank.released, Bank.released⟩, none⟩
  search : t.se = { s.se with
    presses := [], motion := false, search := none, result := Result.resetValue, identity := none, startOwed := false }
  cursor : t.cu = { s.cu with
    pos := ⟨2048, 2048⟩, edge := false, inRange := false, prev := 0, ring := 0, capture := Vector.replicate 32 (0, 0) }
  band : t.band = { s.band with anchor := none, trail := [], commit := ⟨0, .commit, false, 0, ⟨0, 0⟩, .none, none, 0⟩ }
  lists : t.comp.again = false ∧ t.comp.staged = Composed.emptyList ∧ t.comp.serving = Composed.emptyList
    ∧ t.comp.entered = false ∧ t.comp.style = s.comp.style
  pattern : t.pat = { s.pat with frozen := false }
  shadow : t.dir.shadow = s.dir.shadow ∧ t.dir.queue = [] ∧ t.dir.continuation = none
  pane : t.pane.mask = s.pane.mask ∧ t.pane.resultLatch = none ∧ t.pane.commitLatch = none ∧ t.pane.peekLatch = none
    ∧ t.pane.peek = 0
  faults : t.flt.locates = ⟨.none, .none⟩ ∧ t.flt.responses = s.flt.responses ∧ t.flt.watches = s.flt.watches
    ∧ t.flt.stopCause = s.flt.stopCause
  model : t.orderChoices = s.orderChoices ∧ t.pending = s.pending

/-- The number of a bank. -/
def BankId.number : BankId → Nat
  | .b0 => 0
  | .b1 => 1
  | .b2 => 2

/-- A span covers an address; it wraps at the top of the address space (R34). -/
abbrev Span.Covers (sp : Span) (a : Addr) : Prop := ∃ k, k < sp.len ∧ sp.addr + BitVec.ofNat 20 k = a

/-- The source span or the origin span covers an address (R36, R37). -/
abbrev Touched (source : Span) (origin : Option Span) (a : Addr) : Prop :=
  source.Covers a ∨ ∃ o, origin = some o ∧ o.Covers a

/-- No enabled fetch watch with action FREEZE is programmed to an address (R185). -/
def NoFreezeWatch (a : Addr) (s : State) : Prop :=
  ∀ w, w = s.flt.watches.e0 ∨ w = s.flt.watches.e1 → ¬ (w.on = true ∧ w.addr = a ∧ w.action = .freeze)

/-- A POINT at `p` passes the capture test of a bank's header (R30). -/
abbrev Header.TakesPoint (h : Header) (p : Pt) : Prop :=
  p.OnScreen ∧ (p.x - h.centre.x).natAbs ≤ h.half ∧ (p.y - h.centre.y).natAbs ≤ h.half

/-- A bounding box shares at least one point with the capture box of a bank's header (R30). -/
def Header.TakesBox (h : Header) (lo hi : Pt) : Prop :=
  ∃ x y : Int, lo.x ≤ x ∧ x ≤ hi.x ∧ lo.y ≤ y ∧ y ≤ hi.y
    ∧ (x - h.centre.x).natAbs ≤ h.half ∧ (y - h.centre.y).natAbs ≤ h.half

/-- What a geometry item at the head of the queue leaves when it offers the passing entries `l` to FILLING bank i: those for
which the bank has room are appended, the rest are dropped (R35). -/
def harvested (rest : List QItem) (i : BankId) (l : List Entry) (last : Option Pt) (s : State) : State :=
  let b := s.hv.banks.get i
  let room := 1024 - b.entries.length
  { s with
    hv := ⟨rest, s.hv.banks.set i { b with
      entries := b.entries ++ l.take room
      header := { b.header with
        dropped := if l.length ≤ room then b.header.dropped else min 65535 (b.header.dropped + (l.length - room))
        crowded := b.header.crowded || decide (room < l.length) } }, last⟩
    flt := { s.flt with raised := s.flt.raised ++
      (if room < l.length ∧ b.header.crowded = false
        then [⟨.bankCrowded, (b.header.frame.extractLsb' 0 16).setWidth 20, 0⟩] else []) } }

/-- The record that a search publishes (R55 to R59), field by field. -/
structure Publishes (sr : Search) (s : State) (r : Result) : Prop where
  seq : r.seq = s.se.result.seq + 1
  press : r.press = true ↔ sr.request ≠ .motion
  cursor : r.cursor = sr.cursor
  bankFrame : ∀ i, sr.bank = some i → r.bankFrame = (s.hv.banks.get i).header.frame
  noFrame : sr.bank = none → r.bankFrame = 0
  stale : r.stale = true ↔ sr.bank = none ∨ ∃ i, sr.bank = some i ∧
    (((s.hv.banks.get i).header.half : Int) - sr.aperture < (sr.cursor.x - (s.hv.banks.get i).header.centre.x).natAbs
      ∨ ((s.hv.banks.get i).header.half : Int) - sr.aperture < (sr.cursor.y - (s.hv.banks.get i).header.centre.y).natAbs)
  outOfRange : r.outOfRange = true ↔ sr.request = .motion ∧ s.cu.inRange = false
  object : ∀ c held, objectWinner sr = some (c, held) →
    r.kind = .object c.kind ∧ r.point = ⟨max 0 (min 4095 c.point.x), max 0 (min 4095 c.point.y)⟩ ∧ r.d2 = c.d2
      ∧ r.source = some (c.source, c.tag) ∧ r.edge = decide (¬ c.point.OnScreen) ∧ r.held = held
      ∧ r.gridded = false ∧ r.unconstrained = false
      ∧ (r.withdrawn = true ↔ ∃ i e, sr.bank = some i ∧ (s.hv.banks.get i).entries[c.place]? = some e ∧ e.withdrawn = true)
  fallback : objectWinner sr = none → ∃ p q : Pt,
    p = (if sr.grid.on then gridPoint sr.grid sr.cursor else sr.cursor)
      ∧ r.point = ⟨max 0 (min 4095 q.x), max 0 (min 4095 q.y)⟩ ∧ r.edge = decide (¬ q.OnScreen)
      ∧ r.gridded = sr.grid.on ∧ r.d2 = 0 ∧ r.source = none ∧ r.held = false ∧ r.withdrawn = false
      ∧ (sr.mode = .off ∨ sr.anchor = none →
          q = p ∧ r.unconstrained = false ∧ r.kind = if sr.grid.on then .grid else .free)
      ∧ (∀ a, sr.mode ≠ .off → sr.anchor = some a → constrainPoint sr.mode sr.dirs a p = none →
          q = p ∧ r.unconstrained = true ∧ r.kind = if sr.grid.on then .grid else .free)
      ∧ (∀ a, sr.mode ≠ .off → sr.anchor = some a → ∀ u, constrainPoint sr.mode sr.dirs a p = some u →
          q = u ∧ r.unconstrained = false ∧ r.kind = .constrained)

/-- The hold identity that a publication leaves (R53). -/
structure Identifies (sr : Search) (h : Option HoldId) : Prop where
  object : ∀ c held, objectWinner sr = some (c, held) → h = some ⟨c.source, c.kind,
    if c.kind = .nearest ∨ c.kind = .perpendicular then none else some c.point⟩
  fallback : objectWinner sr = none → h = none

/-- The search in flight has no entry left to examine (R58). -/
def Examined (sr : Search) (s : State) : Prop :=
  ∀ i, sr.bank = some i → (s.hv.banks.get i).entries.length ≤ sr.next

/-- The head of the directive queue is not of a search-bound kind, or there is none (R163: codes 13 to 22). -/
def NoBoundHead (s : State) : Prop :=
  ∀ e rest, s.dir.queue = e :: rest → ¬ (13 ≤ e.kind.toNat ∧ e.kind.toNat ≤ 22)

/-- The Band Unit after one press action of a button with the published result r (R101 to R103). -/
def bandAfter (button : Fin 4) (a : PressAction) (r : Result) (x : Band) : Band :=
  match a with
  | .commit =>
    if x.trail.length < 32 then { x with
      trail := x.trail ++ [r.point]
      anchor := some ⟨r.point, true⟩
      commit := ⟨x.commit.seq + 1, .commit, false, button, r.point, r.kind, r.source, r.seq⟩ }
    else { x with commit := ⟨x.commit.seq + 1, .commit, true, button, r.point, r.kind, r.source, r.seq⟩ }
  | .anchor => { x with
      anchor := some ⟨r.point, false⟩
      commit := ⟨x.commit.seq + 1, .anchor, false, button, r.point, r.kind, r.source, r.seq⟩ }
  | .clear => { x with
      trail := []
      anchor := none
      commit := ⟨x.commit.seq + 1, .clear, false, button, r.point, r.kind, r.source, r.seq⟩ }

/-- The Band Unit after the first `n` buttons of a press mask, in button order, with the published result r (R100). -/
def bandUpTo (n : Nat) (mask : BitVec 4) (map : Vector (Option PressAction) 4) (r : Result) (x : Band) : Band :=
  (([0, 1, 2, 3] : List (Fin 4)).take n).foldl (fun x b => if mask.getLsbD b.val then (match map[b] with
    | none => x
    | some a => bandAfter b a r x) else x) x

/-- The buttons of a press mask whose COMMIT finds the trail full, in button order (R101, R104). -/
def failedCommits (mask : BitVec 4) (map : Vector (Option PressAction) 4) (r : Result) (x : Band) : List (Fin 4) :=
  ([0, 1, 2, 3] : List (Fin 4)).filter fun b =>
    mask.getLsbD b.val && decide (map[b] = some .commit) && decide (32 ≤ (bandUpTo b.val mask map r x).trail.length)

/-! ### Terms of the statements on the composed list (chapter 7) -/

/-- MOVE to a glyph point, clamped by itself (R119). -/
def moveTo (x y : Int) : Rec := .move ⟨max 0 (min 4095 x), max 0 (min 4095 y)⟩

/-- DRAW to a glyph point, clamped by itself (R119). -/
def drawTo (x y : Int) : Rec := .draw ⟨max 0 (min 4095 x), max 0 (min 4095 y)⟩

/-- The table of R119, for a cursor at (x, y) with arm g. -/
def cursorTable (glyph : Glyph) (g x y : Int) : List Rec :=
  match glyph with
  | .cross => [moveTo (x - g) y, drawTo (x + g) y, moveTo x (y - g), drawTo x (y + g)]
  | .full => [moveTo 0 y, drawTo 4095 y, moveTo x 0, drawTo x 4095]
  | .box => [moveTo (x - g) (y - g), drawTo (x + g) (y - g), drawTo (x + g) (y + g), drawTo (x - g) (y + g),
      drawTo (x - g) (y - g)]

/-- The table of R120, for a result point (x, y) and a marker half-size s. -/
def markerTable (kind : ResultKind) (s : Nat) (x y : Int) : List Rec :=
  match kind with
  | .object .endpoint => [moveTo (x - s) (y - s), drawTo (x + s) (y - s), drawTo (x + s) (y + s), drawTo (x - s) (y + s),
      drawTo (x - s) (y - s)]
  | .object .midpoint => [moveTo (x - s) (y - s), drawTo (x + s) (y - s), drawTo x (y + s), drawTo (x - s) (y - s)]
  | .object .centre => [.circle ⟨x, y⟩ s]
  | .object .quadrant => [moveTo (x + s) y, drawTo x (y + s), drawTo (x - s) y, drawTo x (y - s), drawTo (x + s) y]
  | .object .nearest => [moveTo (x - s) (y + s), drawTo (x + s) (y + s), drawTo (x - s) (y - s), drawTo (x + s) (y - s),
      drawTo (x - s) (y + s)]
  | .object .perpendicular => [moveTo (x - s) (y + s), drawTo (x - s) (y - s), drawTo (x + s) (y - s)]
  | .grid => [moveTo (x - s) y, drawTo (x + s) y, moveTo x (y - s), drawTo x (y + s)]
  | .none => []
  | .constrained => []
  | .free => []

/-- A part: its ENTITY and its records, or nothing (R118). -/
def part (intensity : Nat) (records : List Rec) : List Rec :=
  if records = [] then [] else .entity intensity :: records

/-- The point of the last record, when it is a MOVE, a DRAW or a CIRCLE (R118). -/
def lastPoint (l : List Rec) : Option Pt :=
  match l.getLast? with
  | some (.move p) => some p
  | some (.draw p) => some p
  | some (.circle p _) => some p
  | some (.entity _) => none
  | some .ret => none
  | none => none

/-- The pen point after records that follow the pen point `pen` (R118). -/
def penOver (pen : Option Pt) (l : List Rec) : Option Pt := if l = [] then pen else lastPoint l

/-- The straight live elements of the band, each from its first point to its second (R109, R110, R122). -/
def bandLines (i : PassInputs) : List (Pt × Pt) :=
  match i.anchor, i.shape with
  | some a, .line => [(a, i.resultPoint)]
  | some a, .box => [(a, ⟨i.resultPoint.x, a.y⟩), (⟨i.resultPoint.x, a.y⟩, i.resultPoint),
      (i.resultPoint, ⟨a.x, i.resultPoint.y⟩), (⟨a.x, i.resultPoint.y⟩, a)]
  | some a, .poly => [(i.trail.getLast?.getD a, i.resultPoint)]
  | some _, .none => []
  | some _, .circle => []
  | none, _ => []

/-- The dash settings call for dashes (R123). -/
abbrev Dashing (i : PassInputs) : Prop := 2 ≤ i.period ∧ 1 ≤ i.onLen ∧ i.onLen < i.period

/-- The dashes of an element (R78, R123). -/
def dashesOf (i : PassInputs) (x : Pt × Pt) : List (Nat × Nat) :=
  dashIntervals (lineLength x.1 x.2) i.period i.onLen i.phase

/-- The element is over the dash cap (R124). -/
abbrev Capped (i : PassInputs) (x : Pt × Pt) : Prop := Dashing i ∧ 0 < lineLength x.1 x.2 ∧ 64 < (dashesOf i x).length

/-- The element is dashed before any shedding (R123, R124; log 22). -/
abbrev Dashed (i : PassInputs) (x : Pt × Pt) : Prop := Dashing i ∧ ¬ Capped i x

/-- The records of an element after the pen point `pen`; `solid` says that shedding has made it solid (R121, R123, R125). -/
def lineRecs (i : PassInputs) (solid : Bool) (pen : Option Pt) (x : Pt × Pt) : List Rec :=
  if solid = true ∨ ¬ Dashed i x then (if pen = some x.1 then [.draw x.2] else [.move x.1, .draw x.2])
  else if lineLength x.1 x.2 = 0 then [.move x.1, .draw x.1]
  else (dashesOf i x).flatMap fun d => [.move (pointAlong x.1 x.2 (lineLength x.1 x.2) d.1),
    .draw (pointAlong x.1 x.2 (lineLength x.1 x.2) d.2)]

/-- The records of elements in order. -/
def linesRecs (i : PassInputs) (solid : Bool) : Option Pt → List (Pt × Pt) → List Rec
  | _, [] => []
  | pen, x :: rest =>
    lineRecs i solid pen x ++ linesRecs i solid (penOver pen (lineRecs i solid pen x)) rest

/-- The trail chain with the `drop` oldest vertices left out (R122, R125). -/
def chainTable (i : PassInputs) (solid : Bool) (drop : Nat) : List Rec :=
  match i.trail.drop drop with
  | [] => []
  | v :: rest => .move v :: rest.map .draw
      ++ (if rest = [] ∧ ¬ (∃ x ∈ bandLines i, solid = true ∨ ¬ Dashed i x) then [.draw v] else [])

/-- The band's records after the pen point `pen` (R122). -/
def bandTable (i : PassInputs) (solid : Bool) (drop : Nat) (pen : Option Pt) : List Rec :=
  match i.shape with
  | .none => []
  | .line => linesRecs i solid pen (bandLines i)
  | .box => linesRecs i solid pen (bandLines i)
  | .circle =>
    match i.anchor with
    | none => []
    | some a => if bandRadius a i.resultPoint = 0 then [] else [.circle a (bandRadius a i.resultPoint)]
  | .poly => chainTable i solid drop ++ linesRecs i solid (penOver pen (chainTable i solid drop)) (bandLines i)

/-- The marker part, empty for a kind without a marker or with the gate off (R118, R120). -/
def markerOf (i : PassInputs) : List Rec :=
  if i.markerGate then part i.style.markerIntensity
    (markerTable i.resultKind i.style.markerHalf i.resultPoint.x i.resultPoint.y) else []

/-- The list as a layout gives it: cursor part, marker part, band part, RETURN (R118 to R122). -/
def listOf (i : PassInputs) (l : Layout) : List Rec :=
  let head := (if i.inRange = true ∧ i.cursorGate = true
      then part i.style.cursorIntensity (cursorTable i.style.glyph i.style.arm i.cursor.x i.cursor.y) else [])
    ++ (if l.marker then markerOf i else [])
  head ++ (if l.band then part i.style.bandIntensity (bandTable i l.solid l.drop (penOver none head)) else []) ++ [.ret]

/-- The layouts in the order in which a pass tries them (R125): as laid out; dashes solid; the oldest vertices of a POLY trail left
out, one more at a time; the marker removed; the band removed. -/
def sheddingOrder (i : PassInputs) : List Layout :=
  let n := if i.shape = .poly then i.trail.length - 1 else 0
  [⟨false, 0, true, true⟩, ⟨true, 0, true, true⟩] ++ (List.range n).map (fun k => ⟨true, k + 1, true, true⟩)
    ++ [⟨true, n, false, true⟩, ⟨true, n, false, false⟩]

/-! ### Terms of the statements on words (chapter 13) -/

/-- A word's layout, as a table of 13.4 or 13.5 gives it: fields as (highest bit, lowest bit, value), every other bit zero (R191). -/
def Laid (w : Word) (l : List (Nat × Nat × Nat)) : Prop :=
  (∀ f ∈ l, w.toNat / 2 ^ f.2.1 % 2 ^ (f.1 + 1 - f.2.1) = f.2.2 % 2 ^ (f.1 + 1 - f.2.1))
    ∧ ∀ i, i < 32 → (∀ f ∈ l, i < f.2.1 ∨ f.1 < i) → w.getLsbD i = false

/-- The number of a bank in a pane word; 3 is NONE (13.4). -/
def bankNumber (b : Option BankId) : Nat := b.elim 3 BankId.number

/-- A run is safe while every invariant above holds of its states. -/
structure Safe (s : State) : Prop where
  banks : BanksOk s
  band : BandOk s
  pattern : PatternOk s
  capacity : CapacityOk s
  mode : ModeOk s
  drawn : DrawnOk s
  search : SearchOk s

end Sys2Proof.Machine
end

