-- ==== Sys2Proof/Certificates/Slice0/Obligations.lean ====
section
/-! DEFINITION. The statements for the provers: what the spec says of each row, of each kind of state and of the whole part. -/

open Sys2Proof Sys2Proof.Machine

/-! ### The machine -/

/-- One step runs the command at the front of the queue, on the state with the queue's rest. -/
def Obligations.StepRunsFrontCommand : Prop :=
  ∀ (c : Instr) (rest : List Instr) (s : State),
    Machine.step { s with pending := c :: rest } = Machine.exec c { s with pending := rest }

/-- Every command answers a next state, and leaves the queue of waiting commands as it stands. Where a command's event cannot
occur the state stays as it is, which is the model's choice (log 4). -/
def Obligations.EveryCommandCompletes : Prop :=
  ∀ (c : Instr) (s : State), ∃ t, Machine.exec c s = .next t ∧ t.pending = s.pending

/-- R147, R158: the strap value is sampled by POWER_ON and by the release of a held RESET pin, and changes at no other command. -/
def Obligations.StrapsSampledAtResets : Prop :=
  (∀ (b : BitVec 6) (held : Bool) (s : State), ∃ t, Machine.exec (.powerOn b held) s = .next t ∧ t.port.strap = b)
  ∧ (∀ (b : BitVec 6) (s : State), s.port.op = .transparent →
      ∃ t, Machine.exec (.resetPinReleased b) s = .next t ∧ t.port.strap = b)
  ∧ (∀ (c : Instr) (s t : State), Machine.exec c s = .next t → (∀ b held, c ≠ .powerOn b held) →
      (∀ b, c ≠ .resetPinReleased b) → t.port.strap = s.port.strap)

/-! ### Resets and operating states -/

/-- The values after a cold reset (R20, R40, R62, R82, R97, R113, R133, R145, R158, R168, R177, R188). The state is PASSIVE for
the straps and the pin that the model chose (log 2), and no start of a search is owed in the model's own field (log 24). -/
def Obligations.ColdResetValues : Prop :=
  State.reset.port.config = none ∧ State.reset.port.op = .passive ∧ State.reset.port.cause = .power
  ∧ TrackerFresh .halted 0 State.reset.trk
  ∧ State.reset.hv.queue = [] ∧ State.reset.hv.lastEndpoint = none
  ∧ (∀ i, (State.reset.hv.banks.get i).state = .empty ∧ (State.reset.hv.banks.get i).entries = [])
  ∧ State.reset.se = ⟨[], false, none,
      ⟨0, false, .none, ⟨2048, 2048⟩, ⟨2048, 2048⟩, 0, none, 0, false, false, false, false, false, false, false⟩, none,
      ⟨⟨6, 4, 5, 3, 1, 2⟩, 12, 256, 4⟩, ⟨false, ⟨0, 0⟩, ⟨64, 64⟩⟩,
      #v[⟨1, 0⟩, ⟨1, 1⟩, ⟨0, 1⟩, ⟨-1, 1⟩, ⟨-1, 0⟩, ⟨-1, -1⟩, ⟨0, -1⟩, ⟨1, -1⟩,
        ⟨0, 0⟩, ⟨0, 0⟩, ⟨0, 0⟩, ⟨0, 0⟩, ⟨0, 0⟩, ⟨0, 0⟩, ⟨0, 0⟩, ⟨0, 0⟩], .off, false⟩
  ∧ State.reset.cu = ⟨.tablet, 0, 0, 4096, 4096, 1, #v[some .commit, none, none, none], ⟨2048, 2048⟩, false, false, 0, 0,
      Vector.replicate 32 (0, 0)⟩
  ∧ State.reset.band = ⟨none, [], .line, 0, 0, false, ⟨0, .commit, false, 0, ⟨0, 0⟩, .none, none, 0⟩⟩
  ∧ State.reset.comp.pass = none ∧ State.reset.comp.again = false ∧ State.reset.comp.entered = false
  ∧ State.reset.comp.staged = ⟨[.ret], false, false, false, false, false, 0, 0⟩
  ∧ State.reset.comp.serving = ⟨[.ret], false, false, false, false, false, 0, 0⟩
  ∧ State.reset.comp.style = ⟨.cross, 24, 6, 7, 5, 6⟩
  ∧ State.reset.pat = ⟨false, ⟨31, 15, true, 31, false⟩, ⟨0, 0, true, 0, true⟩, 0, false⟩
  ∧ State.reset.dir = ⟨Vector.replicate 112 0, [], ⟨0, 0, 0, 0, none⟩, none⟩
  ∧ State.reset.pane = ⟨0, 0, none, none, none, 0⟩
  ∧ State.reset.flt.last = none ∧ State.reset.flt.seq = 0 ∧ State.reset.flt.stopCause = none ∧ State.reset.flt.latch = 0
  ∧ State.reset.flt.responses = ⟨false, false, false, false, true⟩
  ∧ State.reset.flt.watches = ⟨⟨false, 0, .note⟩, ⟨false, 0, .note⟩⟩ ∧ State.reset.flt.locates = ⟨.none, .none⟩

/-- R152, R157, R158: power-on gives every block its cold-reset value, samples the straps and holds no configuration; with the
pin held the part is then TRANSPARENT. Fields of that state are the model's choice, not the spec's: no raised fault waits (log
8), the bus pins are empty (log 14), released banks have zero headers (log 15), no start is owed (log 24), and the model's own
counter and queue stay (log 9). -/
def Obligations.PowerOnIsColdReset : Prop :=
  ∀ (b : BitVec 6) (s : State),
    Machine.exec (.powerOn b false) s = .next { State.reset with
      port := ⟨b, none, if b = 63#6 then .disabled else .passive, .power⟩
      orderChoices := s.orderChoices
      pending := s.pending }
    ∧ Machine.exec (.powerOn b true) s = .next { State.reset with
      port := ⟨b, none, .transparent, .power⟩
      orderChoices := s.orderChoices
      pending := s.pending }

/-- R152, R158: asserting the RESET pin, in any state. The last clause is for a part in which no raised fault waits; where one
waits the model records it with the reset (log 8). The owed start is a field of the model (log 24). -/
def Obligations.ResetPinAsserted : Prop :=
  ∀ s : State, ∃ t, Machine.exec .resetPinAsserted s = .next t
    ∧ t.port = { s.port with op := .transparent }
    ∧ TrackerFresh .halted 0 t.trk
    ∧ Cleared s t
    ∧ t.comp.pass = none
    ∧ t.pane.flags = 0
    ∧ t.dir.progress = ⟨0, 0, 0, 0, none⟩
    ∧ (s.flt.raised = [] → t.flt = { s.flt with locates := ⟨.none, .none⟩ })

/-- R157, R158: the release of a held pin resamples the straps and keeps every setting. Strap value 63 gives DISABLED with the
configuration kept unchecked; any other value discards a configuration that meets the new strap block, and gives ACTIVE with one
held, PASSIVE without. The owed start is a field of the model (log 24). -/
def Obligations.ResetPinReleased : Prop :=
  ∀ (b : BitVec 6) (s : State), s.port.op = .transparent → (∀ m, s.port.config = some m → m.Formed) →
    ∃ t, Machine.exec (.resetPinReleased b) s = .next t
      ∧ Cleared s t
      ∧ t.pane.flags = 0
      ∧ t.dir.progress = ⟨0, 0, 0, 0, none⟩
      ∧ t.flt = { s.flt with locates := ⟨.none, .none⟩ }
      ∧ (b = 63#6 → t.port = ⟨b, s.port.config, .disabled, .pin⟩ ∧ TrackerFresh .halted 0 t.trk ∧ t.comp.pass = none)
      ∧ (b ≠ 63#6 → (s.port.config = none ∨ ∃ m, s.port.config = some m ∧ m.Meets b) →
          t.port = ⟨b, none, .passive, .pin⟩ ∧ TrackerFresh .halted 0 t.trk ∧ t.comp.pass = none)
      ∧ (b ≠ 63#6 → ∀ m, s.port.config = some m → ¬ m.Meets b →
          t.port = ⟨b, some m, .active, .pin⟩ ∧ TrackerFresh .waiting m.listBase t.trk ∧ t.comp.pass = some (passInputs t))

/-- R156, R168: RESTART at the head of the queue is a warm reset that keeps the straps and the configuration; it empties the
queue, and its own outcome is the first report after it. Faults that wait keep waiting (log 8). The owed start is a field of the
model (log 24). -/
def Obligations.RestartResets : Prop :=
  ∀ (e : DirEntry) (rest : List DirEntry) (s : State), AtHead 2 e rest s →
    ∃ t, Machine.exec .restart s = .next t
      ∧ Cleared s t
      ∧ t.port = { s.port with cause := .restart, op := if s.port.config.isSome then .active else .passive }
      ∧ (∀ m, s.port.config = some m → TrackerFresh .waiting m.listBase t.trk ∧ t.comp.pass = some (passInputs t))
      ∧ (s.port.config = none → TrackerFresh .halted 0 t.trk ∧ t.comp.pass = none)
      ∧ t.dir.progress = ⟨1, e.slot, e.kind, e.tag, none⟩
      ∧ t.pane.flags = 0x100#9
      ∧ t.flt = { s.flt with locates := ⟨.none, .none⟩ }

/-- R183: RESUME in BYPASS returns the part to ACTIVE, the tracker WAITING, with a trigger of the composer; in PASSIVE and
ACTIVE it is refused with NOT STOPPED. The expected address stays as it is (log 21). -/
def Obligations.ResumeRow : Prop :=
  ∀ (e : DirEntry) (rest : List DirEntry) (s : State), AtHead 3 e rest s →
    (s.port.op = .bypass → Machine.exec .resume s = .next (accepted e rest (trigger { s with
      port := { s.port with op := .active }
      trk := { s.trk with state := .waiting, record := none, calls := [], frameOpen := false, inWindow := false } })))
    ∧ (s.port.op ≠ .bypass → Machine.exec .resume s = .next (refused e rest .notStopped s))

/-- R153 to R155: CONFIGURE forms its map from its five fields; a map that fits is accepted, replaces the map held, clears the
working state and enters ACTIVE with a trigger; any other is refused with BAD REGION and changes nothing else. The expected
address stays as it is (log 21), and the owed start is a field of the model (log 24). -/
def Obligations.ConfigureRow : Prop :=
  ∀ (e : DirEntry) (rest : List DirEntry) (s : State) (m : RegionMap), AtHead 1 e rest s →
    m = ⟨BitVec.ofNat 20 (16 * e.argU 0), BitVec.ofNat 20 (16 * e.argU 1),
      if e.argU 2 = 0 then 256 else 16 * max 2 (min 64 (e.argU 2)), BitVec.ofNat 20 (16 * e.argU 3),
      max 4 (min 32 (e.argU 4))⟩ →
    (m.Fits s.port.strap → Machine.exec .configure s = .next (accepted e rest (trigger { s with
      port := { s.port with config := some m, op := .active }
      trk := { s.trk with state := .waiting, record := none, calls := [], frameOpen := false, inWindow := false }
      hv := ⟨[], ⟨Bank.released, Bank.released, Bank.released⟩, none⟩
      se := { s.se with presses := [], motion := false, search := none, startOwed := false }
      cu := { s.cu with ring := 0, capture := Vector.replicate 32 (0, 0) }
      comp := ⟨none, false, Composed.emptyList, Composed.emptyList, false, s.comp.style⟩
      pat := { s.pat with frozen := false } })))
    ∧ (¬ m.Fits s.port.strap → Machine.exec .configure s = .next (refused e rest .badRegion s))

/-! ### Writes -/

/-- R148: a write is forwarded with its address and data unchanged in every operating state; in DISABLED and TRANSPARENT it is
handed to nobody; a write to the status pane is handed to nobody in any state. -/
def Obligations.WritesForwarded : Prop :=
  (∀ (a : Addr) (w : Word) (s : State), ∃ t, Machine.exec (.withdrawalWrite a w) s = .next t
    ∧ t.bus = ⟨some (.write a w), none⟩
    ∧ (¬ Observes s → t = { s with bus := ⟨some (.write a w), none⟩ }))
  ∧ (∀ (k : BitVec 6) (w : Word) (s : State), s.port.strap ≠ 63#6 →
    Machine.exec (.paneWrite k w) s = .next { s with
      bus := ⟨some (.write (BitVec.ofNat 20 (s.port.strap.toNat * 0x4000 + 0x80 + k.toNat)) w), none⟩ })

/-- R159: a write to word 1..7 of a slot replaces that word of the slot shadow, and does nothing more; in DISABLED and
TRANSPARENT it reaches memory only. -/
def Obligations.SlotArgumentWritten : Prop :=
  ∀ (slot : BitVec 4) (word : BitVec 3) (w : Word) (s : State), s.port.strap ≠ 63#6 → word ≠ 0#3 →
    (Observes s → ∃ t, Machine.exec (.slotArgumentWrite slot word w) s = .next t
      ∧ t = { s with
        bus := ⟨some (.write (BitVec.ofNat 20 (s.port.strap.toNat * 0x4000 + 8 * slot.toNat + word.toNat)) w), none⟩
        dir := { s.dir with shadow := t.dir.shadow } }
      ∧ t.dir.shadow[7 * slot.toNat + (word.toNat - 1)]? = some w
      ∧ ∀ i, i ≠ 7 * slot.toNat + (word.toNat - 1) → t.dir.shadow[i]? = s.dir.shadow[i]?)
    ∧ (¬ Observes s → Machine.exec (.slotArgumentWrite slot word w) s = .next { s with
      bus := ⟨some (.write (BitVec.ofNat 20 (s.port.strap.toNat * 0x4000 + 8 * slot.toNat + word.toNat)) w), none⟩ })

/-- R159 to R162: a write to word 0 of a slot. Kind 0 posts nothing; with fewer than 16 entries the entry, its kind and tag from
the write and its arguments from the slot shadow, joins the tail; with 16 it is lost and QUEUE OVERFLOW is raised. In DISABLED
and TRANSPARENT the write reaches memory only. -/
def Obligations.DirectivePosted : Prop :=
  ∀ (slot : BitVec 4) (w : Word) (s u : State) (e : DirEntry), s.port.strap ≠ 63#6 →
    u = { s with bus := ⟨some (.write (BitVec.ofNat 20 (s.port.strap.toNat * 0x4000 + 8 * slot.toNat)) w), none⟩ } →
    e.slot = slot → e.kind = w.extractLsb' 24 8 → e.tag = w.extractLsb' 16 8 →
    (∀ i : Fin 7, some e.args[i] = s.dir.shadow[7 * slot.toNat + i.val]?) →
    (¬ Observes s → Machine.exec (.directivePosting slot w) s = .next u)
    ∧ (Observes s → e.kind = 0 → Machine.exec (.directivePosting slot w) s = .next u)
    ∧ (Observes s → e.kind ≠ 0 → s.dir.queue.length < 16 → Machine.exec (.directivePosting slot w) s =
        .next { u with dir := { s.dir with queue := s.dir.queue ++ [e] } })
    ∧ (Observes s → e.kind ≠ 0 → 16 ≤ s.dir.queue.length → Machine.exec (.directivePosting slot w) s =
        .next { u with flt := { s.flt with raised := s.flt.raised ++ [⟨.queueOverflow, slot.setWidth 20, e.tag⟩] } })

/-- R161: field i of a directive lies in argument word 1 + i/2, the upper half when i is even and the lower half when it is odd,
read unsigned or in two's complement. -/
def Obligations.ArgumentFields : Prop :=
  ∀ (e : DirEntry) (i : Fin 14) (h : i.val / 2 < 7),
    e.argU i = ((e.args[i.val / 2]'h).extractLsb' (if i.val % 2 = 0 then 16 else 0) 16).toNat
    ∧ e.argS i = ((e.args[i.val / 2]'h).extractLsb' (if i.val % 2 = 0 then 16 else 0) 16).toInt

/-- R83: in ACTIVE and BYPASS a write to word 0 or 1 of a mailbox record replaces that word in the capture table; a write to
word 2, and a status write with VALID clear, changes nothing of the Cursor Unit and checks no ring order. A write at the address
of a mailbox word is the same whichever row names it. Like every write outside the strap block it goes to the Harvester too, as
WITHDRAWAL_WRITE says (R148). -/
def Obligations.MailboxWordCaptured : Prop :=
  ∀ (m : RegionMap) (r : BitVec 5) (k : BitVec 2) (w : Word) (s : State) (a : Addr), Placed m s →
    s.port.op = .active ∨ s.port.op = .bypass → r.toNat < m.records →
    a = BitVec.ofNat 20 (m.mailboxBase.toNat + 4 * r.toNat + k.toNat) →
    Machine.exec (.withdrawalWrite a w) s = Machine.exec (.mailboxWordWrite r k w) s
    ∧ (k = 3#2 → Machine.exec (.sample r w) s = Machine.exec (.mailboxWordWrite r k w) s)
    ∧ (k = 2#2 ∨ (k = 3#2 ∧ w.getLsbD 31 = false) → Machine.exec (.mailboxWordWrite r k w) s = .next { s with
      bus := ⟨some (.write a w), none⟩
      hv := (withdraw a s).hv })
    ∧ (k = 0#2 ∨ k = 1#2 → ∃ t, Machine.exec (.mailboxWordWrite r k w) s = .next t
      ∧ t = { s with bus := ⟨some (.write a w), none⟩, hv := (withdraw a s).hv, cu := { s.cu with capture := t.cu.capture } }
      ∧ (∀ p, s.cu.capture[r.toNat]? = some p →
          t.cu.capture[r.toNat]? = some (if k = 0#2 then (w, p.2) else (p.1, w)))
      ∧ (∀ i, i ≠ r.toNat → t.cu.capture[i]? = s.cu.capture[i]?))

/-- R36, R37: a write outside the strap block sets the withdrawn flag of every entry, and removes every queued geometry item,
with a source or origin span that covers the address; the word of a preview window that a CIRCLE's span reaches is covered like
any other, which is the model's choice (log 25). Nothing else changes, but for a write that is also a mailbox write in
ACTIVE or BYPASS: what the Cursor Unit makes of that the statements on the mailbox say. -/
def Obligations.WriteWithdraws : Prop :=
  ∀ (a : Addr) (w : Word) (s : State), Observes s → ¬ InStrapBlock s.port.strap a.toNat →
    ∃ t, Machine.exec (.withdrawalWrite a w) s = .next t
      ∧ t.bus = ⟨some (.write a w), none⟩
      ∧ (∀ i, (t.hv.banks.get i).state = (s.hv.banks.get i).state ∧ (t.hv.banks.get i).header = (s.hv.banks.get i).header
          ∧ (t.hv.banks.get i).entries = (s.hv.banks.get i).entries.map fun e =>
              { e with withdrawn := e.withdrawn || decide (Touched e.source e.origin a) })
      ∧ t.hv.queue = s.hv.queue.filter (fun it => match it with
          | .segment _ _ so o _ => !decide (Touched so o a)
          | .circle _ _ so _ => !decide (Touched so none a)
          | .start _ _ _ _ => true
          | .endMark => true
          | .discard => true)
      ∧ t.hv.lastEndpoint = s.hv.lastEndpoint
      ∧ t.port = s.port ∧ t.trk = s.trk ∧ t.band = s.band ∧ t.pat = s.pat ∧ t.dir = s.dir
      ∧ t.orderChoices = s.orderChoices ∧ t.pending = s.pending
      ∧ ((s.port.op ≠ .passive → ∀ m, s.port.config = some m → ¬ m.InMailbox a.toNat) →
        t = { s with bus := ⟨some (.write a w), none⟩, hv := t.hv })

/-! ### Samples -/

/-- R85, R86: a status write whose source is not the selected one checks the ring order and changes nothing else of the Cursor
Unit; the write is forwarded and handed to the Harvester like every other (R148). -/
def Obligations.SampleIgnored : Prop :=
  ∀ (m : RegionMap) (r : BitVec 5) (w : Word) (s : State) (a : Addr), Placed m s →
    s.port.op = .active ∨ s.port.op = .bypass → r.toNat < m.records → w.getLsbD 31 = true →
    ¬ (s.cu.source = .tablet ∧ w.extractLsb' 0 2 = 1#2) → ¬ (s.cu.source = .wheels ∧ w.extractLsb' 0 2 = 2#2) →
    a = BitVec.ofNat 20 (m.mailboxBase.toNat + 4 * r.toNat + 3) →
    Machine.exec (.sample r w) s = .next { s with
      bus := ⟨some (.write a w), none⟩
      hv := (withdraw a s).hv
      cu := { s.cu with ring := (r.toNat + 1) % m.records }
      flt := { s.flt with raised :=
        if r.toNat = s.cu.ring then s.flt.raised else s.flt.raised ++ [⟨.mailboxOrder, r.setWidth 20, 0⟩] } }

/-- R84, R85, R87, R89 to R92: an accepted sample in proximity, of the tablet or of the wheels. `q` is its point before the
clamp, `mask` its press mask. The order of the sub-steps is the model's reading (log 18), and so is that the whole sample comes
before a stop for its MAILBOX ORDER, so that a fifth press raises PRESS OVERRUN (log 26). -/
def Obligations.SampleInProximity : Prop :=
  ∀ (m : RegionMap) (r : BitVec 5) (w : Word) (s : State) (a : Addr) (w0 w1 : Word) (q : Pt) (mask : BitVec 4),
    Placed m s → s.port.op = .active ∨ s.port.op = .bypass → r.toNat < m.records → w.getLsbD 31 = true →
    a = BitVec.ofNat 20 (m.mailboxBase.toNat + 4 * r.toNat + 3) → s.cu.capture[r.toNat]? = some (w0, w1) →
    ((s.cu.source = .tablet ∧ w.extractLsb' 0 2 = 1#2 ∧ w.getLsbD 30 = true
        ∧ q = ⟨roundDiv ((((w0.extractLsb' 16 16).toNat : Int) - s.cu.ox) * s.cu.gx) 65536,
          roundDiv ((((w0.extractLsb' 0 16).toNat : Int) - s.cu.oy) * s.cu.gy) 65536⟩)
      ∨ (s.cu.source = .wheels ∧ w.extractLsb' 0 2 = 2#2
        ∧ q = ⟨s.cu.pos.x + (w1.extractLsb' 24 8).toInt * s.cu.wheel, s.cu.pos.y + (w1.extractLsb' 16 8).toInt * s.cu.wheel⟩)) →
    (∀ b : Fin 4, mask.getLsbD b.val = (w1.getLsbD b.val && !s.cu.prev.getLsbD b.val && (s.cu.map[b]).isSome)) →
    ∃ t, Machine.exec (.sample r w) s = .next t
      ∧ t.cu = { s.cu with
          ring := (r.toNat + 1) % m.records
          pos := ⟨max 0 (min 4095 q.x), max 0 (min 4095 q.y)⟩
          edge := decide (¬ q.OnScreen)
          inRange := true
          prev := w1.extractLsb' 0 4 }
      ∧ t.pane = { s.pane with flags := if s.cu.inRange then s.pane.flags else s.pane.flags ||| 0x040#9 }
      ∧ (s.port.op = .bypass → t.se = s.se)
      ∧ (s.port.op = .active → mask = 0 → t.se = { s.se with
          motion := s.se.motion || !s.cu.inRange || decide (t.cu.pos ≠ s.cu.pos) })
      ∧ (s.port.op = .active → mask ≠ 0 → s.se.presses.length < 4 → t.se = { s.se with
          presses := s.se.presses ++ [⟨t.cu.pos, mask⟩]
          motion := false })
      ∧ (s.port.op = .active → mask ≠ 0 → 4 ≤ s.se.presses.length → t.se = { s.se with motion := true })
      ∧ t.flt = { s.flt with raised := s.flt.raised
          ++ (if r.toNat = s.cu.ring then [] else [⟨.mailboxOrder, r.setWidth 20, 0⟩])
          ++ (if s.port.op = .active ∧ mask ≠ 0 ∧ 4 ≤ s.se.presses.length then [⟨.pressOverrun, mask.setWidth 20, 0⟩] else []) }
      ∧ (t.cu.pos = s.cu.pos → s.cu.inRange = true → t.comp = s.comp)
      ∧ (s.port.op = .active → t.cu.pos ≠ s.cu.pos ∨ s.cu.inRange = false → t.comp.pass.isSome = true)
      ∧ t.comp.staged = s.comp.staged ∧ t.comp.serving = s.comp.serving ∧ t.comp.entered = s.comp.entered
      ∧ t.comp.style = s.comp.style
      ∧ t.bus = ⟨some (.write a w), none⟩ ∧ t.hv = (withdraw a s).hv
      ∧ t.port = s.port ∧ t.trk = s.trk ∧ t.band = s.band ∧ t.pat = s.pat ∧ t.dir = s.dir
      ∧ t.orderChoices = s.orderChoices ∧ t.pending = s.pending

/-- R44, R85, R88, R90: an accepted TABLET sample out of proximity releases the buttons and keeps the position and EDGE; a
change to OUT sets PROXIMITY, withdraws a pending MOTION, marks the standing result and triggers the composer. The owed start is
a field of the model (log 24). -/
def Obligations.SampleOutOfProximity : Prop :=
  ∀ (m : RegionMap) (r : BitVec 5) (w : Word) (s : State) (a : Addr), Placed m s →
    s.port.op = .active ∨ s.port.op = .bypass → r.toNat < m.records → w.getLsbD 31 = true →
    s.cu.source = .tablet → w.extractLsb' 0 2 = 1#2 → w.getLsbD 30 = false →
    a = BitVec.ofNat 20 (m.mailboxBase.toNat + 4 * r.toNat + 3) →
    ∃ t, Machine.exec (.sample r w) s = .next t
      ∧ t.cu = { s.cu with ring := (r.toNat + 1) % m.records, inRange := false, prev := 0 }
      ∧ t.pane = { s.pane with flags := if s.cu.inRange then s.pane.flags ||| 0x040#9 else s.pane.flags }
      ∧ (s.cu.inRange = true → t.se = { s.se with
          motion := false
          startOwed := s.se.startOwed && decide (s.se.presses ≠ [])
          result := { s.se.result with outOfRange := true } })
      ∧ (s.cu.inRange = false → t.se = s.se ∧ t.comp = s.comp)
      ∧ (s.port.op = .active → s.cu.inRange = true → t.comp.pass.isSome = true)
      ∧ t.comp.staged = s.comp.staged ∧ t.comp.serving = s.comp.serving ∧ t.comp.entered = s.comp.entered
      ∧ t.comp.style = s.comp.style
      ∧ t.flt = { s.flt with raised :=
          if r.toNat = s.cu.ring then s.flt.raised else s.flt.raised ++ [⟨.mailboxOrder, r.setWidth 20, 0⟩] }
      ∧ t.bus = ⟨some (.write a w), none⟩ ∧ t.hv = (withdraw a s).hv
      ∧ t.port = s.port ∧ t.trk = s.trk ∧ t.band = s.band ∧ t.pat = s.pat ∧ t.dir = s.dir
      ∧ t.orderChoices = s.orderChoices ∧ t.pending = s.pending

/-! ### STROKE reads -/

/-- R149, R150: outside ACTIVE a STROKE read changes nothing in the part: the pane answers it in PASSIVE and BYPASS, and every
other read is forwarded and answered by memory. -/
def Obligations.StrokeReadOutsideActive : Prop :=
  ∀ (a : Addr) (mem : Word) (s : State), s.port.op ≠ .active →
    (∀ k : Nat, k < 64 → s.port.op = .passive ∨ s.port.op = .bypass → s.port.strap ≠ 63#6 →
      a.toNat = s.port.strap.toNat * 0x4000 + 0x80 + k →
      Machine.exec (.strokeRead a mem) s = .next { s with bus := ⟨none, some (paneWord s k)⟩ })
    ∧ (s.port.op = .disabled ∨ s.port.op = .transparent ∨ ¬ InStrapBlock s.port.strap a.toNat
        ∨ a.toNat < s.port.strap.toNat * 0x4000 + 0x80 →
      Machine.exec (.strokeRead a mem) s = .next { s with bus := ⟨some (.read a), some mem⟩ })

/-- R13 to R16, R134 to R139: a STROKE read of the list base starts a frame, whatever the tracker was doing; one that aborts an
open frame raises FRAME ABORTED with the last word address and queues a DISCARD before the START. The list-base word is the head
word of the frame's first record, `k` its kind, `p` its point and `u` the tracker as the frame start leaves it; `q0` to `q3` are
the harvest queue step by step, with 16 geometry items queued too (R22, R23). The step of the pattern counters stands where no
watch freeze meets it (log 9), and triggers the composer when an output changes or the phase steps. A loss of track leaves the
expected address as it is (log 21). -/
def Obligations.FrameStarts : Prop :=
  ∀ (m : RegionMap) (mem : Word) (s : State) (k : BitVec 4) (p : Pt) (abort : Bool) (u : Tracker) (extra : List QItem)
    (lost : List Raised), Placed m s → s.port.op = .active → s.trk.state ≠ .halted →
    k = mem.extractLsb' 28 4 → p = ⟨(mem.extractLsb' 12 12).toNat, (mem.extractLsb' 0 12).toNat⟩ →
    (abort = true ↔ s.trk.state = .tracking ∧ s.trk.frameOpen = true) →
    u = ⟨.tracking, true, m.listBase + 1, none, m.listBase, ⟨0, 0⟩, none, ⟨0, 0⟩, ⟨7, false, 0⟩, [], false, s.trk.frames + 1⟩ →
    extra = (if k = 2#4 then [.segment ⟨0, 0⟩ p ⟨m.listBase, 1⟩ none 0] else if k = 9#4 then [.endMark]
      else if k = 7#4 ∨ 10 ≤ k.toNat then [.discard] else []) →
    lost = (if k = 7#4 then [⟨.nestUnderflow, m.listBase, 0⟩]
      else if 10 ≤ k.toNat then [⟨.unknownRecord, m.listBase, 0⟩] else []) →
    ∃ t, Machine.exec (.strokeRead m.listBase mem) s = .next t
      ∧ (k = 0#4 → t.trk = u)
      ∧ (k = 1#4 ∨ k = 2#4 → t.trk = { u with current := p, origin := some ⟨m.listBase, 1⟩ })
      ∧ (k = 3#4 → t.trk = { u with record := some (.circle m.listBase p false) })
      ∧ (k = 4#4 → t.trk = { u with
          record := if mem.extractLsb' 0 8 = 0 then none
            else some (.label m.listBase (((mem.extractLsb' 0 8).toNat + 3) / 4)) })
      ∧ (k = 5#4 → t.trk = { u with attr := ⟨mem.extractLsb' 24 3, mem.getLsbD 16, mem.extractLsb' 0 16⟩ })
      ∧ (k = 6#4 → t.trk = { u with record := some (.call m.listBase (mem.extractLsb' 0 20)) })
      ∧ (k = 8#4 → t.trk = { u with expected := mem.extractLsb' 0 20 })
      ∧ (k = 9#4 → t.trk = { u with expected := m.listBase, frameOpen := false })
      ∧ (k = 7#4 ∨ 10 ≤ k.toNat → t.trk = { u with state := .lost, frameOpen := false, expected := s.trk.expected })
      ∧ (geometryCount s.hv.queue < 16 →
          t.hv = { s.hv with queue := s.hv.queue ++ (if abort then [.discard] else [])
            ++ [.start (s.trk.frames + 1) s.cu.pos 0 false] ++ extra }
          ∧ t.flt.raised = s.flt.raised ++ (if abort then [⟨.frameAborted, s.trk.lastWord, 0⟩] else []) ++ lost)
      ∧ (∀ q0 q1 q2 q3 : State,
          q0 = (if abort then queueMarker .discard { s with flt := { s.flt with
            raised := s.flt.raised ++ [⟨.frameAborted, s.trk.lastWord, 0⟩] } } else s) →
          q1 = queueMarker (.start (s.trk.frames + 1) s.cu.pos 0 false) q0 →
          q2 = { q1 with flt := { q1.flt with raised := q1.flt.raised ++ lost } } →
          q3 = (if k = 2#4 then queueItem (.segment ⟨0, 0⟩ p ⟨m.listBase, 1⟩ none 0) q2
            else if k = 9#4 then queueMarker .endMark q2
            else if k = 7#4 ∨ 10 ≤ k.toNat then queueMarker .discard q2 else q2) →
          t.hv = q3.hv ∧ t.flt.raised = q3.flt.raised)
      ∧ t.flt = { s.flt with raised := t.flt.raised, locates := t.flt.locates }
      ∧ t.pane = { s.pane with flags := t.pane.flags }
      ∧ t.bus = ⟨some (.read m.listBase), some mem⟩
      ∧ (NoFreezeWatch m.listBase s → t.pat.frozen = s.pat.frozen ∧ t.orderChoices = s.orderChoices)
      ∧ (s.pat.frozen = true → t.pat = s.pat ∧ t.comp = { s.comp with entered := false })
      ∧ (NoFreezeWatch m.listBase s → s.pat.frozen = false →
          t.pat.phase = (if s.band.march = true ∧ 2 ≤ s.band.period then
              (if s.pat.phase = 0 then s.band.period - 1 else s.pat.phase - 1) else s.pat.phase)
          ∧ t.pat.cascade = s.pat.cascade
          ∧ (s.pat.cascade = false → t.pat.a = (if s.pat.a.run then s.pat.a.step else s.pat.a)
            ∧ t.pat.b = (if s.pat.b.run then s.pat.b.step else s.pat.b))
          ∧ (s.pat.cascade = true → s.pat.a.run = false → t.pat.a = s.pat.a ∧ t.pat.b = s.pat.b)
          ∧ (∀ n r c : Nat, ∀ o : Bool, s.pat.cascade = true → PatternOk s → s.pat.a.run = true →
            n = 256 * s.pat.b.count + s.pat.a.count → r = 256 * s.pat.b.reload + s.pat.a.reload →
            c = 256 * s.pat.b.compare + s.pat.a.compare →
            (n = 0 → o = decide (¬ (1 ≤ c ∧ c < r)) → t.pat.a = { s.pat.a with count := s.pat.a.reload, out := o }
              ∧ t.pat.b = { s.pat.b with count := s.pat.b.reload, out := o })
            ∧ (n ≠ 0 → o = (s.pat.a.out || decide (¬ (1 ≤ c ∧ c ≤ r)) || decide (n - 1 = c)) →
              t.pat.a = { s.pat.a with count := if s.pat.a.count = 0 then 255 else s.pat.a.count - 1, out := o }
              ∧ t.pat.b = { s.pat.b with
                  count := if s.pat.a.count = 0 then s.pat.b.count - 1 else s.pat.b.count, out := o }))
          ∧ (∀ changed : Prop, (changed ↔ t.pat.a.out ≠ s.pat.a.out ∨ t.pat.b.out ≠ s.pat.b.out
              ∨ (s.band.march = true ∧ 2 ≤ s.band.period)) →
            (¬ changed → t.comp = { s.comp with entered := false })
            ∧ (changed → s.comp.pass = none →
              t.comp = { s.comp with entered := false, pass := some (passInputs { s with pat := t.pat }) })
            ∧ (changed → s.comp.pass ≠ none → t.comp = { s.comp with entered := false, again := true })))
      ∧ t.comp.entered = false ∧ t.comp.staged = s.comp.staged ∧ t.comp.serving = s.comp.serving
      ∧ t.port = s.port ∧ t.se = s.se ∧ t.cu = s.cu ∧ t.band = s.band ∧ t.dir = s.dir ∧ t.pending = s.pending

/-- R14, R15, R128, R149, R150, R169: a STROKE read off the list base. With the tracker TRACKING and the address not the
expected one, it raises TRACK LOST with the address as detail and loses track; an open frame queues a DISCARD. In WAITING and
LOST (and HALTED) the tracker ignores it, and nothing is queued or raised for it. Whatever the tracker does, a pane word answers
from live state, memory answers every other read outside the window, and such a read clears window entered and leaves the rest
of the composer and the counters. A loss of track leaves the expected address as it is (log 21). -/
def Obligations.TrackLost : Prop :=
  ∀ (m : RegionMap) (a : Addr) (mem : Word) (s : State), Placed m s → s.port.op = .active → a ≠ m.listBase →
    ∃ t, Machine.exec (.strokeRead a mem) s = .next t
      ∧ (s.trk.state ≠ .tracking → t.trk = s.trk ∧ Leaves m a s s t)
      ∧ (s.trk.state = .tracking → a ≠ s.trk.expected → LosesTrack m .trackLost a s.trk.lastWord s t
        ∧ (s.trk.frameOpen = false ∨ geometryCount s.hv.queue < 16 → ¬ m.InWindow a.toNat →
          t.flt.raised = s.flt.raised ++ [⟨.trackLost, a, 0⟩]))
      ∧ ReadAnswered m a mem s t

/-- R2 to R7, R10, R15, R16, R19, R22, R128, R149, R150, R169: the word `w` that answers a STROKE read at the expected address,
taken by a TRACKING tracker: the records but CALL and RETURN. `b` is IN-WINDOW for the read. A word that queues no item leaves
the harvest queue and raises nothing; what queueItem and queueMarker do with 16 geometry items queued the statement on drops
says. A pane word answers from live state, memory answers every other read outside the window, and such a read clears window
entered and leaves the rest of the composer and the counters. A loss of track leaves the expected address as it is (log 21). -/
def Obligations.RecordsTracked : Prop :=
  ∀ (m : RegionMap) (a : Addr) (mem : Word) (s : State) (b : Bool), Placed m s → s.port.op = .active →
    s.trk.state = .tracking → a = s.trk.expected → a ≠ m.listBase → (b = true ↔ InRegions m s a) →
    ∃ (t : State) (w : Word) (k : BitVec 4) (p : Pt), Machine.exec (.strokeRead a mem) s = .next t ∧ t.bus.upstream = some w
      ∧ (¬ m.InWindow a.toNat → ¬ InStrapBlock s.port.strap a.toNat → w = mem)
      ∧ k = w.extractLsb' 28 4 ∧ p = ⟨(w.extractLsb' 12 12).toNat, (w.extractLsb' 0 12).toNat⟩
      ∧ (s.trk.record = none → k = 0#4 → t.trk = { s.trk with lastWord := a, inWindow := b, expected := a + 1 } ∧ Leaves m a s s t)
      ∧ (s.trk.record = none → k = 1#4 → t.trk = { s.trk with
          lastWord := a, inWindow := b, expected := a + 1, current := p.add s.trk.offset
          origin := if b then none else some ⟨a, 1⟩ } ∧ Leaves m a s s t)
      ∧ (s.trk.record = none → k = 2#4 → t.trk = { s.trk with
            lastWord := a, inWindow := b, expected := a + 1, current := p.add s.trk.offset
            origin := if b then none else some ⟨a, 1⟩ }
          ∧ (s.trk.attr.inert = true ∨ s.trk.attr.intensity = 0 ∨ b = true → Leaves m a s s t)
          ∧ (s.trk.attr.inert = false → s.trk.attr.intensity ≠ 0 → b = false → geometryCount s.hv.queue < 16 →
            t.hv = { s.hv with queue := s.hv.queue
              ++ [.segment s.trk.current (p.add s.trk.offset) ⟨a, 1⟩ s.trk.origin s.trk.attr.tag] })
          ∧ (s.trk.attr.inert = false → s.trk.attr.intensity ≠ 0 → b = false → Leaves m a s
            (queueItem (.segment s.trk.current (p.add s.trk.offset) ⟨a, 1⟩ s.trk.origin s.trk.attr.tag) s) t))
      ∧ (s.trk.record = none → k = 3#4 → t.trk = { s.trk with
          lastWord := a, inWindow := b, expected := a + 1, record := some (.circle a p b) } ∧ Leaves m a s s t)
      ∧ (∀ head c iw, s.trk.record = some (.circle head c iw) → t.trk = { s.trk with
            lastWord := a, inWindow := b, expected := a + 1, record := none, current := c.add s.trk.offset
            origin := if iw then none else some ⟨head, 2⟩ }
          ∧ (s.trk.attr.inert = true ∨ s.trk.attr.intensity = 0 ∨ iw = true → Leaves m a s s t)
          ∧ (s.trk.attr.inert = false → s.trk.attr.intensity ≠ 0 → iw = false → geometryCount s.hv.queue < 16 →
            t.hv = { s.hv with queue := s.hv.queue
              ++ [.circle (c.add s.trk.offset) (w.extractLsb' 0 12).toNat ⟨head, 2⟩ s.trk.attr.tag] })
          ∧ (s.trk.attr.inert = false → s.trk.attr.intensity ≠ 0 → iw = false → Leaves m a s
            (queueItem (.circle (c.add s.trk.offset) (w.extractLsb' 0 12).toNat ⟨head, 2⟩ s.trk.attr.tag) s) t))
      ∧ (s.trk.record = none → k = 4#4 → t.trk = { s.trk with
          lastWord := a, inWindow := b, expected := a + 1
          record := if w.extractLsb' 0 8 = 0 then none else some (.label a (((w.extractLsb' 0 8).toNat + 3) / 4)) }
          ∧ Leaves m a s s t)
      ∧ (∀ head n, s.trk.record = some (.label head n) → t.trk = { s.trk with
          lastWord := a, inWindow := b, expected := a + 1
          record := if n ≤ 1 then none else some (.label head (n - 1)) } ∧ Leaves m a s s t)
      ∧ (s.trk.record = none → k = 5#4 → t.trk = { s.trk with
          lastWord := a, inWindow := b, expected := a + 1
          attr := ⟨w.extractLsb' 24 3, w.getLsbD 16, w.extractLsb' 0 16⟩ } ∧ Leaves m a s s t)
      ∧ (s.trk.record = none → k = 8#4 → t.trk = { s.trk with lastWord := a, inWindow := b, expected := w.extractLsb' 0 20 }
          ∧ Leaves m a s s t)
      ∧ (s.trk.record = none → k = 9#4 → t.trk = { s.trk with
            lastWord := a, inWindow := b, expected := m.listBase, frameOpen := false }
          ∧ (geometryCount s.hv.queue < 16 → t.hv = { s.hv with queue := s.hv.queue ++ [.endMark] })
          ∧ Leaves m a s (queueMarker .endMark s) t)
      ∧ (s.trk.record = none → 10 ≤ k.toNat → LosesTrack m .unknownRecord a a s t)
      ∧ ReadAnswered m a mem s t

/-- R8, R9, R15, R128, R149, R150, R169: the word `w` that answers a STROKE read at the expected address, taken by a TRACKING tracker: the head word of
a CALL is accepted with fewer than 8 open calls and raises NEST OVERFLOW otherwise; its word 1 pushes the return address, the
offset and the attributes and adds (dx, dy); a RETURN restores what the newest call saved, and raises NEST UNDERFLOW with none
open. An accepted CALL and a RETURN leave the harvest queue and raise nothing. A pane word answers from live state, memory
answers every other read outside the window, and such a read clears window entered and leaves the rest of the composer and the
counters. A loss of track leaves the expected address as it is (log 21). -/
def Obligations.CallsAndReturns : Prop :=
  ∀ (m : RegionMap) (a : Addr) (mem : Word) (s : State) (b : Bool), Placed m s → s.port.op = .active →
    s.trk.state = .tracking → a = s.trk.expected → a ≠ m.listBase → (b = true ↔ InRegions m s a) →
    ∃ (t : State) (w : Word), Machine.exec (.strokeRead a mem) s = .next t ∧ t.bus.upstream = some w
      ∧ (¬ m.InWindow a.toNat → ¬ InStrapBlock s.port.strap a.toNat → w = mem)
      ∧ (s.trk.record = none → w.extractLsb' 28 4 = 6#4 → s.trk.calls.length < 8 → t.trk = { s.trk with
          lastWord := a, inWindow := b, expected := a + 1, record := some (.call a (w.extractLsb' 0 20)) } ∧ Leaves m a s s t)
      ∧ (s.trk.record = none → w.extractLsb' 28 4 = 6#4 → 8 ≤ s.trk.calls.length →
          LosesTrack m .nestOverflow a a s t)
      ∧ (∀ head target, s.trk.record = some (.call head target) → t.trk = { s.trk with
          lastWord := a, inWindow := b, expected := target, record := none
          calls := ⟨head + 2, s.trk.offset, s.trk.attr⟩ :: s.trk.calls
          offset := ⟨s.trk.offset.x + (w.extractLsb' 16 13).toInt, s.trk.offset.y + (w.extractLsb' 0 13).toInt⟩ } ∧ Leaves m a s s t)
      ∧ (∀ c rest, s.trk.record = none → w.extractLsb' 28 4 = 7#4 → s.trk.calls = c :: rest → t.trk = { s.trk with
          lastWord := a, inWindow := b, expected := c.ret, calls := rest, offset := c.offset, attr := c.attr }
          ∧ Leaves m a s s t)
      ∧ (s.trk.record = none → w.extractLsb' 28 4 = 7#4 → s.trk.calls = [] →
          LosesTrack m .nestUnderflow a a s t)
      ∧ ReadAnswered m a mem s t

/-- R127 to R130: a STROKE read at offset k of the preview window in ACTIVE, with no FREEZE watch on it. Offset 0 latches the
staged list unless FROZEN; a later read of a window entered at 0 is answered from the serving list, and at or past its end with
a RETURN and WINDOW OVERREAD; a window not entered at 0 raises WINDOW ENTRY and no overread. No other read raises a WINDOW
fault. -/
def Obligations.WindowServed : Prop :=
  ∀ (m : RegionMap) (a : Addr) (k : Nat) (mem : Word) (s : State) (list : Composed), Placed m s → s.port.op = .active →
    NoFreezeWatch a s → k < m.windowLen → a.toNat = m.windowBase.toNat + k →
    list = (if k = 0 ∧ s.pat.frozen = false then s.comp.staged else s.comp.serving) →
    ∃ t, Machine.exec (.strokeRead a mem) s = .next t
      ∧ t.comp = { s.comp with serving := list, entered := true }
      ∧ (k < list.words.length → t.bus = ⟨none, list.words[k]?⟩)
      ∧ (list.words.length ≤ k → t.bus = ⟨none, some 0x70000000⟩)
      ∧ (∃ l, t.flt.raised = s.flt.raised
            ++ (if k ≠ 0 ∧ s.comp.entered = false then [⟨.windowEntry, BitVec.ofNat 20 k, 0⟩]
              else if list.words.length ≤ k then [⟨.windowOverread, BitVec.ofNat 20 k, 0⟩] else []) ++ l
          ∧ ∀ f ∈ l, f.code.classNumber ≠ 5)
      ∧ t.port = s.port ∧ t.se = s.se ∧ t.cu = s.cu ∧ t.band = s.band ∧ t.dir = s.dir ∧ t.pending = s.pending

/-- R186, R187: in ACTIVE every STROKE read is compared with both watches; each match sets its flag and applies its own action,
and is no fault. No match occurs outside ACTIVE. -/
def Obligations.WatchesMatch : Prop :=
  ∀ (a : Addr) (mem : Word) (s : State) (h0 h1 : Bool),
    h0 = decide (s.flt.watches.e0.on = true ∧ s.flt.watches.e0.addr = a) →
    h1 = decide (s.flt.watches.e1.on = true ∧ s.flt.watches.e1.addr = a) →
    ∃ t, Machine.exec (.strokeRead a mem) s = .next t
      ∧ (s.port.op ≠ .active → t.pane = s.pane ∧ t.pat = s.pat ∧ t.flt = s.flt)
      ∧ (s.port.op = .active →
        t.pane = { s.pane with flags :=
          s.pane.flags ||| (if h0 then 0x004#9 else 0) ||| (if h1 then 0x008#9 else 0) }
        ∧ t.pat.frozen = (s.pat.frozen || (h0 && decide (s.flt.watches.e0.action = .freeze))
          || (h1 && decide (s.flt.watches.e1.action = .freeze)))
        ∧ t.flt.locates = ⟨if h0 = true ∧ s.flt.watches.e0.action = .locate then
            (if t.trk.state = .tracking then .known t.trk.current t.trk.calls.length t.trk.attr.tag else .unknown)
          else s.flt.locates.e0,
          if h1 = true ∧ s.flt.watches.e1.action = .locate then
            (if t.trk.state = .tracking then .known t.trk.current t.trk.calls.length t.trk.attr.tag else .unknown)
          else s.flt.locates.e1⟩
        ∧ t.flt.watches = s.flt.watches ∧ t.flt.last = s.flt.last ∧ t.flt.seq = s.flt.seq ∧ t.flt.latch = s.flt.latch
        ∧ t.flt.stopCause = s.flt.stopCause ∧ t.port = s.port)

/-! ### HOST reads of the latched records -/

/-- R171, R172: the HOST reads that open and close the result and commit latches, where the pane answers; elsewhere they are
forwarded (R149). -/
def Obligations.ResultAndCommitLatches : Prop :=
  ∀ (mem : Word) (s : State), s.port.strap ≠ 63#6 →
    (Observes s →
      Machine.exec (.resultLatchOpen mem) s = .next { s with
        bus := ⟨none, s.se.result.words[0]?⟩
        pane := { s.pane with resultLatch := some s.se.result } }
      ∧ Machine.exec (.resultLastWordRead mem) s = .next { s with
        bus := ⟨none, (s.pane.resultLatch.getD s.se.result).words[7]?⟩
        pane := { s.pane with resultLatch := none, flags := s.pane.flags &&& 0x1FE#9 } }
      ∧ Machine.exec (.commitLatchOpen mem) s = .next { s with
        bus := ⟨none, s.band.commit.words[0]?⟩
        pane := { s.pane with commitLatch := some s.band.commit } }
      ∧ Machine.exec (.commitLastWordRead mem) s = .next { s with
        bus := ⟨none, (s.pane.commitLatch.getD s.band.commit).words[3]?⟩
        pane := { s.pane with commitLatch := none, flags := s.pane.flags &&& 0x1FD#9 } })
    ∧ (¬ Observes s →
      Machine.exec (.resultLatchOpen mem) s = .next { s with
        bus := ⟨some (.read (BitVec.ofNat 20 (s.port.strap.toNat * 0x4000 + 0x8A))), some mem⟩ }
      ∧ Machine.exec (.resultLastWordRead mem) s = .next { s with
        bus := ⟨some (.read (BitVec.ofNat 20 (s.port.strap.toNat * 0x4000 + 0x91))), some mem⟩ }
      ∧ Machine.exec (.commitLatchOpen mem) s = .next { s with
        bus := ⟨some (.read (BitVec.ofNat 20 (s.port.strap.toNat * 0x4000 + 0x92))), some mem⟩ }
      ∧ Machine.exec (.commitLastWordRead mem) s = .next { s with
        bus := ⟨some (.read (BitVec.ofNat 20 (s.port.strap.toNat * 0x4000 + 0x95))), some mem⟩ })

/-- R173: the HOST reads of the peek window's first and last words. The entry shown is that of the CURRENT bank at the pointer;
the last word closes an open latch and advances the pointer, up to 1024. -/
def Obligations.PeekWindowWalks : Prop :=
  ∀ (mem : Word) (s : State) (copy : PeekCopy), s.port.strap ≠ 63#6 →
    copy.pointer = s.pane.peek →
    (∀ e, copy.entry = some e ↔ ∃ b, currentBank s = some b ∧ b.entries[s.pane.peek]? = some e) →
    (Observes s →
      Machine.exec (.peekLatchOpen mem) s = .next { s with
        bus := ⟨none, copy.words[0]?⟩
        pane := { s.pane with peekLatch := some copy } }
      ∧ (s.pane.peekLatch = none → Machine.exec (.peekLastWordRead mem) s = .next { s with bus := ⟨none, copy.words[3]?⟩ })
      ∧ (∀ c, s.pane.peekLatch = some c → Machine.exec (.peekLastWordRead mem) s = .next { s with
        bus := ⟨none, c.words[3]?⟩
        pane := { s.pane with peekLatch := none, peek := min 1024 (c.pointer + 1) } }))
    ∧ (¬ Observes s →
      Machine.exec (.peekLatchOpen mem) s = .next { s with
        bus := ⟨some (.read (BitVec.ofNat 20 (s.port.strap.toNat * 0x4000 + 0xAB))), some mem⟩ }
      ∧ Machine.exec (.peekLastWordRead mem) s = .next { s with
        bus := ⟨some (.read (BitVec.ofNat 20 (s.port.strap.toNat * 0x4000 + 0xAE))), some mem⟩ })

/-! ### Pattern Counters and the composer -/

/-- The steps CHANNEL_RELOAD and DASH_PHASE_WRAP as commands of their own, which is the model's choice (log 10): in ACTIVE and
RUNNING a running channel at 0 reloads and sets its output by R136, and φ at 0 becomes P − 1 by R139; a change triggers the
composer, and where the step is not due, for either channel, for the pair in CASCADE mode or for φ, nothing changes. -/
def Obligations.PatternRows : Prop :=
  ∀ (s : State), PatternOk s →
    (∀ u : Channel, s.port.op = .active → s.pat.frozen = false → s.pat.cascade = false → s.pat.a.run = true →
      s.pat.a.count = 0 → u = { s.pat.a with
        count := s.pat.a.reload
        out := decide (¬ (1 ≤ s.pat.a.compare ∧ s.pat.a.compare < s.pat.a.reload)) } →
      (u.out ≠ s.pat.a.out → Machine.exec (.channelReload .a) s = .next (trigger { s with pat := { s.pat with a := u } }))
      ∧ (u.out = s.pat.a.out → Machine.exec (.channelReload .a) s = .next { s with pat := { s.pat with a := u } }))
    ∧ (∀ u : Channel, s.port.op = .active → s.pat.frozen = false → s.pat.cascade = false → s.pat.b.run = true →
      s.pat.b.count = 0 → u = { s.pat.b with
        count := s.pat.b.reload
        out := decide (¬ (1 ≤ s.pat.b.compare ∧ s.pat.b.compare < s.pat.b.reload)) } →
      (u.out ≠ s.pat.b.out → Machine.exec (.channelReload .b) s = .next (trigger { s with pat := { s.pat with b := u } }))
      ∧ (u.out = s.pat.b.out → Machine.exec (.channelReload .b) s = .next { s with pat := { s.pat with b := u } }))
    ∧ (∀ (o : Bool) (ch : ChannelName) (p : Patterns), s.port.op = .active → s.pat.frozen = false → s.pat.cascade = true →
      s.pat.a.run = true → s.pat.a.count = 0 → s.pat.b.count = 0 →
      o = decide (¬ (1 ≤ 256 * s.pat.b.compare + s.pat.a.compare
        ∧ 256 * s.pat.b.compare + s.pat.a.compare < 256 * s.pat.b.reload + s.pat.a.reload)) →
      p = { s.pat with a := { s.pat.a with count := s.pat.a.reload, out := o }
                       b := { s.pat.b with count := s.pat.b.reload, out := o } } →
      (o ≠ s.pat.a.out → Machine.exec (.channelReload ch) s = .next (trigger { s with pat := p }))
      ∧ (o = s.pat.a.out → Machine.exec (.channelReload ch) s = .next { s with pat := p }))
    ∧ (s.port.op = .active → s.pat.frozen = false → s.band.march = true → 2 ≤ s.band.period → s.pat.phase = 0 →
      Machine.exec .dashPhaseWrap s = .next (trigger { s with pat := { s.pat with phase := s.band.period - 1 } }))
    ∧ (s.port.op ≠ .active ∨ s.pat.frozen = true ∨ s.pat.a.run = false ∨ 0 < s.pat.a.count →
      Machine.exec (.channelReload .a) s = .next s)
    ∧ (s.port.op ≠ .active ∨ s.pat.frozen = true ∨ (s.pat.cascade = false ∧ (s.pat.b.run = false ∨ 0 < s.pat.b.count)) →
      Machine.exec (.channelReload .b) s = .next s)
    ∧ (∀ ch, s.pat.cascade = true → s.pat.a.run = false ∨ 0 < s.pat.a.count ∨ 0 < s.pat.b.count →
      Machine.exec (.channelReload ch) s = .next s)
    ∧ (s.port.op ≠ .active ∨ s.pat.frozen = true ∨ s.band.march = false ∨ s.band.period = 0 ∨ 0 < s.pat.phase →
      Machine.exec .dashPhaseWrap s = .next s)

/-- R136: from a reload, a channel with valid settings runs reload − compare steps OFF and then compare + 1 steps ON, and the
cycle is reload + 1 steps long. A channel whose settings are not valid stays ON. -/
def Obligations.BlinkCycle : Prop :=
  ∀ c : Channel,
    (1 ≤ c.compare → c.compare ≤ c.reload → c.count = c.reload → c.out = decide (c.reload = c.compare) →
      (∀ k, k ≤ c.reload → Nat.iterate Channel.step k c =
        { c with count := c.reload - k, out := decide (c.reload - c.compare ≤ k) })
      ∧ Nat.iterate Channel.step (c.reload + 1) c = c)
    ∧ (¬ (1 ≤ c.compare ∧ c.compare ≤ c.reload) → ∀ k, (Nat.iterate Channel.step (k + 1) c).out = true)

/-- R115 to R117: PASS_END stages the list built from the inputs the pass read at its start; with the again flag set a new pass
begins at once, reading its inputs afresh; with no pass in progress nothing happens (log 4). A trigger starts a pass in QUIET,
sets the again flag in COMPOSING, and does nothing outside ACTIVE. R118 to R126: the list is the first layout of the shedding
order that fits the window, with the flags and the shed count of what was shed on the way and the sequence of its result record;
the list with no part composed is the empty list, with result sequence 0 (R114). An element under dash settings counts as dashed
(log 22). -/
def Obligations.PassEnds : Prop :=
  ∀ s : State,
    (∀ i, s.comp.pass = some i → s.comp.again = false →
      Machine.exec .passEnd s = .next { s with comp := { s.comp with pass := none, staged := composeList i } })
    ∧ (∀ i, s.comp.pass = some i → s.comp.again = true → Machine.exec .passEnd s = .next { s with
      comp := { s.comp with pass := some (passInputs s), again := false, staged := composeList i } })
    ∧ (s.comp.pass = none → Machine.exec .passEnd s = .next s)
    ∧ (s.port.op = .active → s.comp.pass = none → trigger s = { s with comp := { s.comp with pass := some ⟨s.cu.pos,
        s.cu.inRange, s.se.result.point, s.se.result.kind, s.se.result.seq, s.band.anchor.map Anchor.point, s.band.trail,
        s.band.shape, s.band.period, s.band.onLen, s.pat.phase, s.pat.a.out, s.pat.b.out, s.comp.style, windowLimit s⟩ } })
    ∧ (s.port.op = .active → s.comp.pass ≠ none → trigger s = { s with comp := { s.comp with again := true } })
    ∧ (s.port.op ≠ .active → trigger s = s)
    ∧ (∀ i : PassInputs, listOf i ⟨false, 0, true, true⟩ = [.ret] → composeList i = ⟨[.ret], false, false, false, false, false, 0, 0⟩)
    ∧ (∀ i : PassInputs, 32 ≤ i.windowLen → listOf i ⟨false, 0, true, true⟩ ≠ [.ret] → ∃ before l after, sheddingOrder i = before ++ l :: after
      ∧ (∀ x ∈ before, i.windowLen < (recWords (listOf i x)).length) ∧ (recWords (listOf i l)).length ≤ i.windowLen
      ∧ composeList i = ⟨listOf i l, decide (∃ x ∈ bandLines i, Capped i x),
        l.solid && decide (∃ x ∈ bandLines i, Dashed i x), decide (0 < l.drop), !l.marker && decide (markerOf i ≠ []),
        !l.band && decide (bandTable i true l.drop none ≠ []), l.drop, i.resultSeq⟩)

/-! ### The Harvester -/

/-- R25, R26, R28: a START or a DISCARD at the head of the queue. Either releases a FILLING bank; a START then finds an EMPTY
bank and makes the lowest-numbered one FILLING under a fresh header. Where another item is at the head nothing happens (log 4). -/
def Obligations.StartAndDiscardTaken : Prop :=
  ∀ (s : State) (it : QItem) (rest : List QItem) (t : Triplet Bank), BanksOk s → s.port.op = .active →
    s.hv.queue = it :: rest →
    (∀ j, t.get j = if (s.hv.banks.get j).state = .filling then Bank.released else s.hv.banks.get j) →
    (∃ i, (t.get i).state = .empty)
    ∧ (∀ f c d n i, it = .start f c d n → (t.get i).state = .empty →
        (∀ j, (t.get j).state = .empty → i.number ≤ j.number) →
        Machine.exec .startTaken s = .next { s with
          hv := ⟨rest, t.set i ⟨.filling, ⟨f, c, s.se.snap.half, d, false, n⟩, []⟩, none⟩ })
    ∧ (it = .discard → Machine.exec .discardTaken s = .next { s with hv := { s.hv with queue := rest, banks := t } })
    ∧ ((∀ f c d n, it ≠ .start f c d n) → Machine.exec .startTaken s = .next s)
    ∧ (it ≠ .discard → Machine.exec .discardTaken s = .next s)

/-- R27, R29: an END at the head of the queue. With no bank FILLING it only leaves the queue; otherwise the FILLING bank becomes
READY, an older READY bank EMPTY, and with the Search Engine IDLE the bank is promoted: it is CURRENT, the old CURRENT bank is
EMPTY, the peek pointer is 0 with its latch closed, and a MOTION is pending unless the proximity is OUT. `z` is the state in
which the END is taken: where a completion with a request pending owes the next search, that search has started in it, on the
old CURRENT bank, so that the new bank waits as READY (log 24). -/
def Obligations.EndTaken : Prop :=
  ∀ (s z : State) (rest : List QItem) (t : Triplet Bank), BanksOk s → s.port.op = .active → s.hv.queue = .endMark :: rest →
    (s.se.startOwed = false → z = s) → (s.se.startOwed = true → Machine.exec .searchStart s = .next z) →
    ((∀ i, (s.hv.banks.get i).state ≠ .filling) →
      Machine.exec .endTaken s = .next { z with hv := { s.hv with queue := rest } })
    ∧ (∀ i, (s.hv.banks.get i).state = .filling → z.se.search.isSome = true →
      (∀ j, t.get j = if j = i then { s.hv.banks.get j with state := .ready }
        else if (s.hv.banks.get j).state = .ready then Bank.released else s.hv.banks.get j) →
      Machine.exec .endTaken s = .next { z with hv := { s.hv with queue := rest, banks := t } })
    ∧ (∀ i, (s.hv.banks.get i).state = .filling → z.se.search = none →
      (∀ j, t.get j = if j = i then { s.hv.banks.get j with state := .current }
        else if (s.hv.banks.get j).state = .ready ∨ (s.hv.banks.get j).state = .current then Bank.released
        else s.hv.banks.get j) →
      Machine.exec .endTaken s = .next { z with
        hv := { s.hv with queue := rest, banks := t }
        pane := { s.pane with peek := 0, peekLatch := none }
        se := { z.se with motion := z.se.motion || s.cu.inRange } })
    ∧ (s.se.startOwed = true → SearchOk s → z.se.search.isSome = true)

/-- R28, R30 to R32, R34, R35: a SEGMENT item at the head of the queue offers ENDPOINT, ENDPOINT, MIDPOINT and SEGMENT in that
order; each is appended when it passes the capture test, an ENDPOINT unless it equals the last-endpoint register. Beyond 1024
entries they are dropped. With no FILLING bank the item is discarded. -/
def Obligations.SegmentItemTaken : Prop :=
  ∀ (s : State) (p0 p1 mid : Pt) (so : Span) (org : Option Span) (tag : Half) (rest : List QItem), BanksOk s →
    s.port.op = .active → s.hv.queue = .segment p0 p1 so org tag :: rest →
    mid = ⟨(p0.x + p1.x + 1) / 2, (p0.y + p1.y + 1) / 2⟩ →
    ((∀ i, (s.hv.banks.get i).state ≠ .filling) →
      Machine.exec .segmentItemTaken s = .next { s with hv := { s.hv with queue := rest } })
    ∧ (∀ (i : BankId) (h : Header) (a0 a1 am as : Bool) (room : Nat) (last0 last1 : Option Pt),
      (s.hv.banks.get i).state = .filling → h = (s.hv.banks.get i).header →
      room = 1024 - (s.hv.banks.get i).entries.length →
      (a0 = true ↔ h.TakesPoint p0 ∧ s.hv.lastEndpoint ≠ some p0) →
      last0 = (if a0 = true ∧ 0 < room then some p0 else s.hv.lastEndpoint) →
      (a1 = true ↔ h.TakesPoint p1 ∧ last0 ≠ some p1) →
      last1 = (if a1 = true ∧ a0.toNat < room then some p1 else last0) →
      (am = true ↔ p0.OnScreen ∧ p1.OnScreen ∧ h.TakesPoint mid) →
      (as = true ↔ h.TakesBox ⟨min p0.x p1.x, min p0.y p1.y⟩ ⟨max p0.x p1.x, max p0.y p1.y⟩) →
      Machine.exec .segmentItemTaken s = .next (harvested rest i
        ((if a0 then [⟨.point .endpoint p0, so, org, tag, false⟩] else [])
          ++ (if a1 then [⟨.point .endpoint p1, so, org, tag, false⟩] else [])
          ++ (if am then [⟨.point .midpoint mid, so, org, tag, false⟩] else [])
          ++ (if as then [⟨.segment p0 p1, so, org, tag, false⟩] else [])) last1 s))

/-- R28, R30, R33 to R35: a CIRCLE item at the head of the queue offers CENTRE, the four QUADRANT points and CIRCLE in that
order, CENTRE alone for radius 0, to the same test and the same capacity; the last-endpoint register is not touched. -/
def Obligations.CircleItemTaken : Prop :=
  ∀ (s : State) (q : Pt) (r : Nat) (so : Span) (tag : Half) (rest : List QItem), BanksOk s →
    s.port.op = .active → s.hv.queue = .circle q r so tag :: rest →
    ((∀ i, (s.hv.banks.get i).state ≠ .filling) →
      Machine.exec .circleItemTaken s = .next { s with hv := { s.hv with queue := rest } })
    ∧ (∀ (i : BankId) (h : Header) (ring : Bool) (points : List (PointKind × Pt)),
      (s.hv.banks.get i).state = .filling → h = (s.hv.banks.get i).header →
      points = (.centre, q) :: (if r = 0 then [] else [(.quadrant, ⟨q.x + r, q.y⟩), (.quadrant, ⟨q.x, q.y + r⟩),
        (.quadrant, ⟨q.x - r, q.y⟩), (.quadrant, ⟨q.x, q.y - r⟩)]) →
      (ring = true ↔ r ≠ 0 ∧ h.TakesBox ⟨q.x - r, q.y - r⟩ ⟨q.x + r, q.y + r⟩) →
      Machine.exec .circleItemTaken s = .next (harvested rest i
        (((points.filter fun x => decide (h.TakesPoint x.2)).map fun x => ⟨.point x.1 x.2, so, none, tag, false⟩)
          ++ (if ring then [⟨.circle q r, so, none, tag, false⟩] else [])) s.hv.lastEndpoint s))

/-- R22 to R24: items and markers that arrive at the harvest queue. With 16 geometry items queued an item is dropped, and a
marker removes the newest geometry item; the drop is recorded on the frame's START while that is queued and otherwise in the
FILLING bank, and QUEUE OVERRUN is raised once a frame. -/
def Obligations.QueueDrops : Prop :=
  ∀ (s : State),
    (∀ it, geometryCount s.hv.queue < 16 → queueItem it s = { s with hv := { s.hv with queue := s.hv.queue ++ [it] } }
      ∧ queueMarker it s = { s with hv := { s.hv with queue := s.hv.queue ++ [it] } })
    ∧ (∀ it f c d n l r, 16 ≤ geometryCount s.hv.queue → s.hv.queue = l ++ .start f c d n :: r →
      (∀ f' c' d' n', QItem.start f' c' d' n' ∉ r) →
      queueItem it s = { s with
        hv := { s.hv with queue := l ++ .start f c (min 65535 (d + 1)) true :: r }
        flt := { s.flt with raised := s.flt.raised ++
          if n then [] else [⟨.queueOverrun, (f.extractLsb' 0 16).setWidth 20, 0⟩] } })
    ∧ (∀ it i b, 16 ≤ geometryCount s.hv.queue → (∀ f' c' d' n', QItem.start f' c' d' n' ∉ s.hv.queue) → BanksOk s →
      (s.hv.banks.get i).state = .filling → b = s.hv.banks.get i →
      queueItem it s = { s with
        hv := { s.hv with banks := s.hv.banks.set i { b with
          header := { b.header with dropped := min 65535 (b.header.dropped + 1), incomplete := true } } }
        flt := { s.flt with raised := s.flt.raised ++
          if b.header.incomplete then [] else [⟨.queueOverrun, (b.header.frame.extractLsb' 0 16).setWidth 20, 0⟩] } })
    ∧ (∀ m g f c d n l k r, 16 ≤ geometryCount s.hv.queue → s.hv.queue = l ++ .start f c d n :: k ++ g :: r →
      (∀ f' c' d' n', QItem.start f' c' d' n' ∉ k) → g.isGeometry = true → (∀ x ∈ r, x.isGeometry = false) →
      queueMarker m s = { s with
        hv := { s.hv with queue := l ++ .start f c (min 65535 (d + 1)) true :: k ++ (r ++ [m]) }
        flt := { s.flt with raised := s.flt.raised ++
          if n then [] else [⟨.queueOverrun, (f.extractLsb' 0 16).setWidth 20, 0⟩] } })
    ∧ (∀ m g l r i b, 16 ≤ geometryCount s.hv.queue → s.hv.queue = l ++ g :: r →
      (∀ f' c' d' n', QItem.start f' c' d' n' ∉ l) → g.isGeometry = true → (∀ x ∈ r, x.isGeometry = false) → BanksOk s →
      (s.hv.banks.get i).state = .filling → b = s.hv.banks.get i →
      queueMarker m s = { s with
        hv := { s.hv with
          queue := l ++ (r ++ [m])
          banks := s.hv.banks.set i { b with
            header := { b.header with dropped := min 65535 (b.header.dropped + 1), incomplete := true } } }
        flt := { s.flt with raised := s.flt.raised ++
          if b.header.incomplete then [] else [⟨.queueOverrun, (b.header.frame.extractLsb' 0 16).setWidth 20, 0⟩] } })

/-! ### The Search Engine -/

/-- R45, R46: with the engine IDLE in ACTIVE, SEARCH_START takes the oldest press, or the MOTION when no press is pending, and
fixes the inputs of the search; otherwise no search starts, and nothing happens (log 4). The owed start is a field of the model
(log 24). -/
def Obligations.SearchStarts : Prop :=
  ∀ (s : State) (bank : Option BankId), (∀ i, bank = some i ↔ (s.hv.banks.get i).state = .current) →
    (∀ p rest, s.port.op = .active → s.se.search = none → s.se.presses = p :: rest →
      Machine.exec .searchStart s = .next { s with se := { s.se with
        presses := rest
        startOwed := false
        search := some ⟨.press p, p.point, bank, s.band.anchor.map Anchor.point, s.se.snap.prio, s.se.snap.aperture,
          s.se.snap.margin, s.se.grid, s.se.dirs, s.se.mode, s.se.identity, 0, [], false, none⟩ } })
    ∧ (s.port.op = .active → s.se.search = none → s.se.presses = [] → s.se.motion = true →
      Machine.exec .searchStart s = .next { s with se := { s.se with
        motion := false
        startOwed := false
        search := some ⟨.motion, s.cu.pos, bank, s.band.anchor.map Anchor.point, s.se.snap.prio, s.se.snap.aperture,
          s.se.snap.margin, s.se.grid, s.se.dirs, s.se.mode, s.se.identity, 0, [], false, none⟩ } })
    ∧ (s.port.op ≠ .active ∨ s.se.search.isSome = true ∨ (s.se.presses = [] ∧ s.se.motion = false) →
      Machine.exec .searchStart s = .next s)

/-- R47 to R51, R53: ENTRY_EXAMINED takes the next entry of the held bank. A withdrawn entry is skipped. Any other forms its
contenders `l`, and keeps those within the aperture; the first that matches the hold identity forms the hold candidate. -/
def Obligations.EntryExamined : Prop :=
  ∀ (s : State) (sr : Search) (i : BankId) (e : Entry) (l : List Contender) (hit : Bool), s.se.search = some sr →
    sr.bank = some i → (s.hv.banks.get i).entries[sr.next]? = some e →
    l = (match e.shape with
      | .point .endpoint p =>
        if 1 ≤ sr.prio.endpoint then [⟨.endpoint, p, dist2 p sr.cursor, sr.next, false, e.source.addr, e.tag⟩] else []
      | .point .midpoint p =>
        if 1 ≤ sr.prio.midpoint then [⟨.midpoint, p, dist2 p sr.cursor, sr.next, false, e.source.addr, e.tag⟩] else []
      | .point .centre p =>
        if 1 ≤ sr.prio.centre then [⟨.centre, p, dist2 p sr.cursor, sr.next, false, e.source.addr, e.tag⟩] else []
      | .point .quadrant p =>
        if 1 ≤ sr.prio.quadrant then [⟨.quadrant, p, dist2 p sr.cursor, sr.next, false, e.source.addr, e.tag⟩] else []
      | .segment p0 p1 =>
        (if 1 ≤ sr.prio.nearest then [⟨.nearest, nearestOnSegment p0 p1 sr.cursor,
            dist2 (nearestOnSegment p0 p1 sr.cursor) sr.cursor, sr.next, false, e.source.addr, e.tag⟩] else [])
        ++ (match sr.anchor with
          | none => []
          | some a => match perpendicularFoot a p0 p1 with
            | none => []
            | some f => if 1 ≤ sr.prio.perpendicular then
                [⟨.perpendicular, f, dist2 f sr.cursor, sr.next, true, e.source.addr, e.tag⟩] else [])
      | .circle c r =>
        if 1 ≤ sr.prio.nearest then [⟨.nearest, nearestOnCircle c r sr.cursor,
          dist2 (nearestOnCircle c r sr.cursor) sr.cursor, sr.next, false, e.source.addr, e.tag⟩] else []) →
    (hit = true ↔ sr.holdMet = false ∧ ∃ h, sr.identity = some h ∧ e.source.addr = h.source ∧
      (match e.shape with
        | .point .endpoint p => h.kind = .endpoint ∧ h.point = some p
        | .point .midpoint p => h.kind = .midpoint ∧ h.point = some p
        | .point .centre p => h.kind = .centre ∧ h.point = some p
        | .point .quadrant p => h.kind = .quadrant ∧ h.point = some p
        | .segment _ _ => h.kind = .nearest ∨ h.kind = .perpendicular
        | .circle _ _ => h.kind = .nearest)) →
    (e.withdrawn = true → Machine.exec .entryExamined s = .next { s with se := { s.se with
      search := some { sr with next := sr.next + 1 } } })
    ∧ (e.withdrawn = false → Machine.exec .entryExamined s = .next { s with se := { s.se with
      search := some { sr with
        next := sr.next + 1
        kept := sr.kept ++ l.filter fun c => decide (c.d2 ≤ sr.aperture * sr.aperture)
        holdMet := sr.holdMet || hit
        hold := if hit then l.find? (fun c => decide (sr.identity.map HoldId.kind = some c.kind)) else sr.hold } } })

/-- R52, R54: the winner. The hold candidate wins when it lies within aperture plus margin and no kept contender has a higher
priority; otherwise the kept contender of the highest priority, then of the smallest squared distance, then the first examined. -/
def Obligations.WinnerChosen : Prop :=
  ∀ (sr : Search),
    (∀ h, sr.hold = some h → h.d2 ≤ (sr.aperture + sr.margin) * (sr.aperture + sr.margin) →
      (∀ c ∈ sr.kept, sr.prio.of c.kind ≤ sr.prio.of h.kind) → objectWinner sr = some (h, true))
    ∧ ((∀ h, sr.hold = some h → (sr.aperture + sr.margin) * (sr.aperture + sr.margin) < h.d2
        ∨ ∃ c ∈ sr.kept, sr.prio.of h.kind < sr.prio.of c.kind) →
      (sr.kept = [] → objectWinner sr = none)
      ∧ (sr.kept ≠ [] → ∃ l c r, sr.kept = l ++ c :: r ∧ objectWinner sr = some (c, false)
        ∧ (∀ w ∈ l, sr.prio.of w.kind < sr.prio.of c.kind ∨ (sr.prio.of w.kind = sr.prio.of c.kind ∧ c.d2 < w.d2))
        ∧ (∀ w ∈ r, sr.prio.of w.kind < sr.prio.of c.kind ∨ (sr.prio.of w.kind = sr.prio.of c.kind ∧ c.d2 ≤ w.d2))))

/-- R55 to R59, R29: completion of a search for a MOTION, with no held directive. The record is published and RESULT READY set,
a withdrawn winner and a promotion each file a MOTION, and the composer is triggered with the result. With a request then
pending the next search is owed (log 24). -/
def Obligations.MotionCompletes : Prop :=
  ∀ (s : State) (sr : Search) (r : Result) (h : Option HoldId) (t : Triplet Bank), BanksOk s → s.port.op = .active →
    s.se.search = some sr → sr.request = .motion → Examined sr s → NoBoundHead s → Publishes sr s r → Identifies sr h →
    ((∀ j, (s.hv.banks.get j).state ≠ .ready) → Machine.exec .searchComplete s = .next (trigger { s with
      se := { s.se with
        search := none
        result := r
        identity := h
        motion := s.se.motion || (r.withdrawn && s.cu.inRange)
        startOwed := decide (s.se.presses ≠ []) || s.se.motion || (r.withdrawn && s.cu.inRange) }
      pane := { s.pane with flags := s.pane.flags ||| 0x001#9 } }))
    ∧ (∀ i, (s.hv.banks.get i).state = .ready →
      (∀ j, t.get j = if j = i then { s.hv.banks.get j with state := .current }
        else if (s.hv.banks.get j).state = .current then Bank.released else s.hv.banks.get j) →
      Machine.exec .searchComplete s = .next (trigger { s with
        hv := { s.hv with banks := t }
        se := { s.se with
          search := none
          result := r
          identity := h
          motion := s.se.motion || s.cu.inRange
          startOwed := decide (s.se.presses ≠ []) || s.se.motion || s.cu.inRange }
        pane := { s.pane with flags := s.pane.flags ||| 0x001#9, peek := 0, peekLatch := none } }))

/-- R29, R58, R59, R100 to R104, R179, R180: completion of a search for a PRESS, with no held directive. The actions of its mask are
applied in button order, each to what the one before left, all with the one published result; a READY bank is promoted. Each
COMMIT that finds the trail full raises COMMIT FAILED with its button; the completion takes them (log 7), so that each is
recorded, and the first stops the part when INPUT is set to STOP. The owed start is a field of the model (log 24). -/
def Obligations.PressApplied : Prop :=
  ∀ (s : State) (sr : Search) (p : Press) (r : Result) (h : Option HoldId) (x : Band) (failed : List (Fin 4)),
    s.port.op = .active → s.se.search = some sr → sr.request = .press p → Examined sr s → NoBoundHead s → Publishes sr s r →
    Identifies sr h → x = bandUpTo 4 p.mask s.cu.map r s.band → failed = failedCommits p.mask s.cu.map r s.band →
    (∃ t, Machine.exec .searchComplete s = .next t ∧ t.band = x ∧ t.se.result = r ∧ t.se.identity = h ∧ t.se.search = none
      ∧ t.cu = s.cu ∧ t.pat.a = s.pat.a ∧ t.pat.b = s.pat.b ∧ t.dir = s.dir ∧ t.bus = s.bus ∧ t.pending = s.pending)
    ∧ (s.band.trail.length ≤ 28 → failed = [])
    ∧ (∀ (banks : Triplet Bank) (up : Bool) (flt : FaultUnit), BanksOk s →
      ((∀ j, (s.hv.banks.get j).state ≠ .ready) → up = false ∧ banks = s.hv.banks) →
      (∀ i, (s.hv.banks.get i).state = .ready → up = true ∧ ∀ j, banks.get j =
        if j = i then { s.hv.banks.get j with state := .current }
        else if (s.hv.banks.get j).state = .current then Bank.released else s.hv.banks.get j) →
      (failed = [] → flt = s.flt) →
      (∀ l b, failed = l ++ [b] → s.flt.raised = [] ∧ s.flt.responses.input = false ∧ flt = { s.flt with
        seq := s.flt.seq + BitVec.ofNat 16 failed.length
        last := some ⟨.commitFailed, BitVec.ofNat 20 b.val, 0, s.trk.frames.extractLsb' 0 16,
          s.flt.seq + BitVec.ofNat 16 failed.length⟩
        latch := s.flt.latch ||| 0x800#14 }) →
      Machine.exec .searchComplete s = .next (trigger { s with
        hv := { s.hv with banks := banks }
        se := { s.se with
          search := none
          result := r
          identity := h
          motion := s.se.motion || ((r.withdrawn || up) && s.cu.inRange)
          startOwed := decide (s.se.presses ≠ []) || s.se.motion || ((r.withdrawn || up) && s.cu.inRange) }
        band := x
        pane := { s.pane with
          flags := s.pane.flags ||| (if x = s.band then 0x001#9 else 0x003#9) ||| (if failed = [] then 0 else 0x010#9)
          peek := if up then 0 else s.pane.peek
          peekLatch := if up then none else s.pane.peekLatch }
        flt := flt }))
    ∧ (∀ b rest, failed = b :: rest → s.flt.raised = [] → s.flt.responses.input = true →
      ∃ t, Machine.exec .searchComplete s = .next t ∧ t.flt.raised = []
        ∧ t.flt.seq = s.flt.seq + BitVec.ofNat 16 failed.length
        ∧ (∀ l c, failed = l ++ [c] → t.flt.last = some ⟨.commitFailed, BitVec.ofNat 20 c.val, 0,
          s.trk.frames.extractLsb' 0 16, s.flt.seq + BitVec.ofNat 16 failed.length⟩)
        ∧ t.flt.latch = s.flt.latch ||| 0x800#14 ∧ t.port = { s.port with op := .bypass }
        ∧ t.flt.stopCause = some ⟨.commitFailed, BitVec.ofNat 20 b.val, 0, s.trk.frames.extractLsb' 0 16, s.flt.seq + 1⟩
        ∧ t.hv = ⟨[], ⟨Bank.released, Bank.released, Bank.released⟩, none⟩ ∧ t.se.presses = [] ∧ t.se.motion = false
        ∧ t.se.startOwed = false ∧ t.comp = ⟨none, false, Composed.emptyList, Composed.emptyList, false, s.comp.style⟩)

/-- R163, R164, R58 (step 8): while a search is in flight a search-bound head is HELD, and none of its rows runs (log 4). When
the search completes, or a stop abandons it, the head executes on what the completion or the stop leaves, within the same
command (log 19). -/
def Obligations.HeldHead : Prop :=
  ∀ (row : Nat × Instr) (s : State) (e : DirEntry) (rest : List DirEntry),
    row ∈ [(13, Instr.setSnap), (14, .setGrid), (15, .loadDirections), (16, .continueDirections), (17, .setConstraint),
      (18, .setAnchor), (19, .clearAnchor), (20, .trailAppend), (21, .trailDrop), (22, .trailClear)] →
    s.port.op = .active → s.se.search.isSome = true → s.dir.queue = e :: rest → e.kind.toNat = row.1 →
    Machine.exec row.2 s = .next s
    ∧ (∀ u, Machine.exec .searchComplete { s with dir := { s.dir with queue := [] } } = .next u → u.se.search = none →
      Machine.exec .searchComplete s = Machine.exec row.2 { u with dir := { u.dir with queue := e :: rest } })
    ∧ (∀ u, Machine.exec .faultTaken { s with dir := { s.dir with queue := [] } } = .next u → u.port.op = .bypass →
      Machine.exec .faultTaken s = Machine.exec row.2 { u with dir := { u.dir with queue := e :: rest } })

/-- R54, R66: the published point of an object snap lies within the aperture of the search cursor, or within aperture plus
margin when the result is HELD. -/
def Obligations.SnapDistance : Prop :=
  ∀ (s t : State) (sr : Search) (k : SnapKind), SearchOk s → s.se.search = some sr → Examined sr s →
    Machine.exec .searchComplete s = .next t → t.se.result.kind = .object k →
    (dist2 t.se.result.point t.se.result.cursor : Nat) ≤ t.se.result.d2
    ∧ (t.se.result.held = false → t.se.result.d2 ≤ sr.aperture * sr.aperture)
    ∧ t.se.result.d2 ≤ (sr.aperture + sr.margin) * (sr.aperture + sr.margin)

/-! ### Snap arithmetic -/

/-- R64 to R66: rounding half away from zero, each coordinate by itself; the floor; the nearest integer to a square root; and
the clamp, which moves a point no farther from any point on the screen. -/
def Obligations.RoundingRootsClamp : Prop :=
  (∀ p q : Int, 0 < q → roundDiv p q = p.sign * ((2 * |p| + q) / (2 * q))
    ∧ 2 * q * |roundDiv p q| ≤ 2 * |p| + q ∧ 2 * |p| + q < 2 * q * (|roundDiv p q| + 1))
  ∧ (∀ (p v : Pt) (n m : Int), stepAlong p v n m = ⟨p.x + roundDiv (n * v.x) m, p.y + roundDiv (n * v.y) m⟩)
  ∧ (∀ p q : Int, 0 < q → floorDiv p q * q ≤ p ∧ (∀ k : Int, k * q ≤ p → k ≤ floorDiv p q)
    ∧ (0 ≤ p → floorDiv p q = (p.toNat / q.toNat : Nat)))
  ∧ (∀ n r : Nat, r * r ≤ n → n < (r + 1) * (r + 1) → isqrt n = if r < n - r * r then r + 1 else r)
  ∧ (∀ n : Nat, 4 * n < (2 * isqrt n + 1) * (2 * isqrt n + 1)
    ∧ (0 < isqrt n → (2 * isqrt n - 1) * (2 * isqrt n - 1) < 4 * n) ∧ (n ≤ 2 * 4095 * 4095 → isqrt n ≤ 5791))
  ∧ (∀ p : Pt, clampPt p = ⟨if p.x < 0 then 0 else if 4095 < p.x then 4095 else p.x,
      if p.y < 0 then 0 else if 4095 < p.y then 4095 else p.y⟩
    ∧ (clampEdge p = true ↔ clampPt p ≠ p) ∧ (∀ c : Pt, c.OnScreen → dist2 (clampPt p) c ≤ dist2 p c))

/-- R70 to R78: the points of snap arithmetic. The nearest point of a segment and the perpendicular foot lie in the segment's
bounding box, the midpoint and the grid point on the screen, and the grid point on its lattice, the greater of two lattice
values that are equally near. The direction constraint projects on the competing direction of the largest squared cosine, the
first of them on equality. The dashes of an element are its clipped intervals in order, and the points along it run from its
start to its end within its bounding box. -/
def Obligations.PointsComputed : Prop :=
  (∀ p0 p1 c v : Pt, ∀ m n : Int, v = ⟨p1.x - p0.x, p1.y - p0.y⟩ → m = v.x * v.x + v.y * v.y →
    n = (c.x - p0.x) * v.x + (c.y - p0.y) * v.y →
    nearestOnSegment p0 p1 c = (if m = 0 ∨ n ≤ 0 then p0 else if m ≤ n then p1
      else ⟨p0.x + roundDiv (n * v.x) m, p0.y + roundDiv (n * v.y) m⟩)
    ∧ perpendicularFoot c p0 p1 = (if 0 < m ∧ 0 ≤ n ∧ n ≤ m
      then some ⟨p0.x + roundDiv (n * v.x) m, p0.y + roundDiv (n * v.y) m⟩ else none)
    ∧ (∀ q, q = nearestOnSegment p0 p1 c ∨ some q = perpendicularFoot c p0 p1 →
      min p0.x p1.x ≤ q.x ∧ q.x ≤ max p0.x p1.x ∧ min p0.y p1.y ≤ q.y ∧ q.y ≤ max p0.y p1.y))
  ∧ (∀ (q c : Pt) (r l : Nat), l = isqrt (dist2 c q) → nearestOnCircle q r c = (if c = q then ⟨q.x + r, q.y⟩
      else ⟨q.x + roundDiv (r * (c.x - q.x)) l, q.y + roundDiv (r * (c.y - q.y)) l⟩))
  ∧ (∀ p0 p1 : Pt, p0.OnScreen → p1.OnScreen → (midpoint p0 p1).OnScreen ∧ midpoint p0 p1 = midpoint p1 p0)
  ∧ (∀ (g : GridSettings) (p : Pt), g.origin.OnScreen → 2 ≤ g.pitch.x → g.pitch.x ≤ 1024 → 2 ≤ g.pitch.y →
      g.pitch.y ≤ 1024 → p.OnScreen → (gridPoint g p).OnScreen
      ∧ g.pitch.x ∣ (gridPoint g p).x - g.origin.x ∧ g.pitch.y ∣ (gridPoint g p).y - g.origin.y
      ∧ (∀ v : Int, 0 ≤ v → v ≤ 4095 → g.pitch.x ∣ v - g.origin.x → |(gridPoint g p).x - p.x| ≤ |v - p.x|)
      ∧ (∀ v : Int, 0 ≤ v → v ≤ 4095 → g.pitch.y ∣ v - g.origin.y → |(gridPoint g p).y - p.y| ≤ |v - p.y|)
      ∧ (∀ v : Int, 0 ≤ v → v ≤ 4095 → g.pitch.x ∣ v - g.origin.x → 2 * (v - p.x) = g.pitch.x → (gridPoint g p).x = v)
      ∧ (∀ v : Int, 0 ≤ v → v ≤ 4095 → g.pitch.y ∣ v - g.origin.y → 2 * (v - p.y) = g.pitch.y → (gridPoint g p).y = v))
  ∧ (∀ (mode : ConstraintMode) (dirs : Vector Pt 16) (a p v : Pt) (us : List Pt), v = ⟨p.x - a.x, p.y - a.y⟩ →
      us = (match mode with
        | .off => []
        | .table => dirs.toList.filter fun u => decide (u ≠ ⟨0, 0⟩)
        | .ortho => [⟨1, 0⟩, ⟨0, 1⟩, ⟨-1, 0⟩, ⟨0, -1⟩]) →
      ((∀ u ∈ us, v.x * u.x + v.y * u.y ≤ 0) → constrainPoint mode dirs a p = none)
      ∧ ((∃ u ∈ us, 0 < v.x * u.x + v.y * u.y) → ∃ l u r d m, us = l ++ u :: r ∧ d = v.x * u.x + v.y * u.y
        ∧ m = u.x * u.x + u.y * u.y ∧ 0 < d
        ∧ constrainPoint mode dirs a p = some ⟨a.x + roundDiv (d * u.x) m, a.y + roundDiv (d * u.y) m⟩
        ∧ (∀ w ∈ l, ∀ e, e = v.x * w.x + v.y * w.y → 0 < e → e * e * m < d * d * (w.x * w.x + w.y * w.y))
        ∧ (∀ w ∈ r, ∀ e, e = v.x * w.x + v.y * w.y → 0 < e → e * e * m ≤ d * d * (w.x * w.x + w.y * w.y))))
  ∧ (∀ l period on phase : Nat, 2 ≤ period → 1 ≤ on → on < period → phase < period →
      (∀ x, x ∈ dashIntervals l period on phase ↔ x.1 < x.2 ∧ ∃ j : Nat, (x.1 : Int) = max 0 (j * period - phase)
        ∧ (x.2 : Int) = min l (j * period - phase + on))
      ∧ (dashIntervals l period on phase).Pairwise fun x y => x.2 < y.1)
  ∧ (∀ s t : Pt, lineLength s t = isqrt (dist2 t s) ∧ bandRadius s t = min 4095 (isqrt (dist2 t s))
      ∧ ∀ l, l = lineLength s t → 0 < l → pointAlong s t l 0 = s ∧ pointAlong s t l l = t
        ∧ ∀ k ≤ l, pointAlong s t l k = ⟨s.x + roundDiv (k * (t.x - s.x)) l, s.y + roundDiv (k * (t.y - s.y)) l⟩
          ∧ min s.x t.x ≤ (pointAlong s t l k).x ∧ (pointAlong s t l k).x ≤ max s.x t.x
          ∧ min s.y t.y ≤ (pointAlong s t l k).y ∧ (pointAlong s t l k).y ≤ max s.y t.y)

/-! ### Faults -/

/-- R178 to R181: FAULT_TAKEN takes the oldest raised fault (log 6) and records it. With the response of its class CONTINUE, or
outside ACTIVE, that is all; with STOP in ACTIVE the part enters BYPASS. A head that the stop releases is left to the statement
on it. A stop leaves the expected address as it is (log 21), and the owed start is a field of the model (log 24). -/
def Obligations.FaultTaken : Prop :=
  ∀ (s u : State) (f : Raised) (rest : List Raised) (stop : Bool), s.flt.raised = f :: rest →
    (stop = true ↔ (f.code.classNumber = 1 ∧ s.flt.responses.traversal = true)
      ∨ (f.code.classNumber = 2 ∧ s.flt.responses.harvest = true)
      ∨ (f.code.classNumber = 3 ∧ s.flt.responses.directive = true)
      ∨ (f.code.classNumber = 4 ∧ s.flt.responses.input = true)
      ∨ (f.code.classNumber = 5 ∧ s.flt.responses.window = true)) →
    u = { s with
      flt := { s.flt with
        raised := rest
        seq := s.flt.seq + 1
        last := some ⟨f.code, f.detail, f.tag, s.trk.frames.extractLsb' 0 16, s.flt.seq + 1⟩
        latch := s.flt.latch ||| BitVec.twoPow 14 f.code.latchIndex }
      pane := { s.pane with flags := s.pane.flags ||| 0x010#9 } } →
    (stop = false ∨ s.port.op ≠ .active → Machine.exec .faultTaken s = .next u)
    ∧ (stop = true → s.port.op = .active → s.se.search = none ∨ NoBoundHead s →
      Machine.exec .faultTaken s = .next { u with
        flt := { u.flt with stopCause := u.flt.last }
        pane := { s.pane with flags := s.pane.flags ||| 0x030#9 }
        port := { s.port with op := .bypass }
        trk := { s.trk with state := .halted, record := none, calls := [], frameOpen := false, inWindow := false }
        se := { s.se with presses := [], motion := false, search := none, startOwed := false }
        hv := ⟨[], ⟨Bank.released, Bank.released, Bank.released⟩, none⟩
        comp := ⟨none, false, Composed.emptyList, Composed.emptyList, false, s.comp.style⟩
        pat := { s.pat with frozen := false } })

/-! ### Directives -/

/-- R105 to R108, R113: the five anchor and trail directives. -/
def Obligations.AnchorAndTrailRows : Prop :=
  ∀ (e : DirEntry) (rest : List DirEntry) (s : State) (p : Pt), s.se.search = none →
    p = ⟨max 0 (min 4095 (e.argS 0)), max 0 (min 4095 (e.argS 1))⟩ →
    (AtHead 18 e rest s → Machine.exec .setAnchor s = .next (accepted e rest (trigger { s with
      band := { s.band with anchor := some ⟨p, false⟩ } })))
    ∧ (AtHead 19 e rest s → Machine.exec .clearAnchor s = .next (accepted e rest (trigger { s with
      band := { s.band with anchor := none } })))
    ∧ (AtHead 20 e rest s → s.band.trail.length < 32 → Machine.exec .trailAppend s = .next (accepted e rest (trigger { s with
      band := { s.band with trail := s.band.trail ++ [p], anchor := some ⟨p, true⟩ } })))
    ∧ (AtHead 20 e rest s → 32 ≤ s.band.trail.length → Machine.exec .trailAppend s = .next (refused e rest .trailFull s))
    ∧ (∀ l v w, AtHead 21 e rest s → s.band.trail = l ++ [v, w] → Machine.exec .trailDrop s = .next (accepted e rest (trigger
      { s with band := { s.band with trail := l ++ [v], anchor := some ⟨v, true⟩ } })))
    ∧ (∀ w, AtHead 21 e rest s → s.band.trail = [w] → Machine.exec .trailDrop s = .next (accepted e rest (trigger
      { s with band := { s.band with trail := [], anchor := none } })))
    ∧ (AtHead 21 e rest s → s.band.trail = [] → Machine.exec .trailDrop s = .next (refused e rest .trailEmpty s))
    ∧ (∀ a, AtHead 22 e rest s → s.band.anchor = some ⟨a, false⟩ → Machine.exec .trailClear s = .next (accepted e rest (trigger
      { s with band := { s.band with trail := [] } })))
    ∧ (AtHead 22 e rest s → (∀ a, s.band.anchor ≠ some ⟨a, false⟩) → Machine.exec .trailClear s = .next (accepted e rest
      (trigger { s with band := { s.band with trail := [], anchor := none } })))

/-- R61, R79, R82: SET SNAP, SET GRID and SET CONSTRAINT, with the clamps of their fields. -/
def Obligations.SnapSettingRows : Prop :=
  ∀ (e : DirEntry) (rest : List DirEntry) (s : State) (a : Nat), s.se.search = none → a = max 1 (min 255 (e.argU 6)) →
    (AtHead 13 e rest s → Machine.exec .setSnap s = .next (accepted e rest { s with se := { s.se with
      snap := ⟨⟨min 7 (e.argU 0), min 7 (e.argU 1), min 7 (e.argU 2), min 7 (e.argU 3), min 7 (e.argU 4), min 7 (e.argU 5)⟩,
        a, max (a + 16) (min 1024 (e.argU 7)), min 64 (e.argU 8)⟩ } }))
    ∧ (AtHead 14 e rest s → Machine.exec .setGrid s = .next (accepted e rest { s with se := { s.se with
      grid := ⟨decide (e.argU 0 ≠ 0), ⟨min 4095 (e.argU 1 : Int), min 4095 (e.argU 2 : Int)⟩,
        ⟨max 2 (min 1024 (e.argU 3 : Int)), max 2 (min 1024 (e.argU 4 : Int))⟩⟩ } }))
    ∧ (AtHead 17 e rest s → Machine.exec .setConstraint s = .next (accepted e rest { s with se := { s.se with
      mode := if e.argU 0 = 0 then .off else if e.argU 0 = 1 then .table else .ortho } }))

/-- R80, R81: LOAD DIRECTIONS and CONTINUE DIRECTIONS write consecutive entries of the direction table and move the continuation
index; they are refused with INDEX RANGE past entry 15, and CONTINUE DIRECTIONS with NO CONTINUATION without an index. -/
def Obligations.DirectionRows : Prop :=
  ∀ (e : DirEntry) (rest : List DirEntry) (s : State) (n : Nat) (d : Vector Pt 16), s.se.search = none →
    (AtHead 15 e rest s → n = max 1 (min 5 (e.argU 1)) →
      (16 < e.argU 0 + n → Machine.exec .loadDirections s = .next (refused e rest .indexRange s))
      ∧ (e.argU 0 + n ≤ 16 →
        (∀ i : Fin 16, (i.val < e.argU 0 ∨ e.argU 0 + n ≤ i.val → d[i] = s.se.dirs[i])
          ∧ (∀ j : Fin 5, j.val < n → i.val = e.argU 0 + j.val →
            d[i] = ⟨max (-255) (min 255 (e.argS ⟨2 + 2 * j.val, by omega⟩)),
              max (-255) (min 255 (e.argS ⟨3 + 2 * j.val, by omega⟩))⟩)) →
        Machine.exec .loadDirections s = .next (accepted e rest { s with
          se := { s.se with dirs := d }, dir := { s.dir with continuation := some (e.argU 0 + n) } })))
    ∧ (AtHead 16 e rest s → n = max 1 (min 6 (e.argU 0)) →
      (s.dir.continuation = none → Machine.exec .continueDirections s = .next (refused e rest .noContinuation s))
      ∧ (∀ k, s.dir.continuation = some k → 16 < k + n →
        Machine.exec .continueDirections s = .next (refused e rest .indexRange s))
      ∧ (∀ k, s.dir.continuation = some k → k + n ≤ 16 →
        (∀ i : Fin 16, (i.val < k ∨ k + n ≤ i.val → d[i] = s.se.dirs[i])
          ∧ (∀ j : Fin 6, j.val < n → i.val = k + j.val →
            d[i] = ⟨max (-255) (min 255 (e.argS ⟨1 + 2 * j.val, by omega⟩)),
              max (-255) (min 255 (e.argS ⟨2 + 2 * j.val, by omega⟩))⟩)) →
        Machine.exec .continueDirections s = .next (accepted e rest { s with
          se := { s.se with dirs := d }, dir := { s.dir with continuation := some (k + n) } })))

/-- R173, R175, R176: SET NOTIFY, CLEAR EVENTS (whose clear comes after DRAINED) and SET PEEK; and the ATTENTION line, high
while an enabled flag is set. R169, R170, R184, R189, R191: every word of the pane from live state, what a HOST read is answered
where a latch is open, and what a read without side effects is answered (log 11). -/
def Obligations.PaneRows : Prop :=
  ∀ (e : DirEntry) (rest : List DirEntry) (s : State) (copy : PeekCopy) (cur ready filling : Option BankId),
    copy.pointer = s.pane.peek →
    (∀ x, copy.entry = some x ↔ ∃ b, currentBank s = some b ∧ b.entries[s.pane.peek]? = some x) →
    (∀ i, cur = some i ↔ (s.hv.banks.get i).state = .current) →
    (∀ i, ready = some i ↔ (s.hv.banks.get i).state = .ready) →
    (∀ i, filling = some i ↔ (s.hv.banks.get i).state = .filling) →
    (AtHead 25 e rest s → Machine.exec .setNotify s = .next (accepted e rest { s with
      pane := { s.pane with mask := BitVec.ofNat 9 (e.argU 0) } }))
    ∧ (AtHead 26 e rest s → Machine.exec .clearEvents s = .next { accepted e rest s with
      pane := { s.pane with flags := (accepted e rest s).pane.flags &&& ~~~ BitVec.ofNat 9 (e.argU 0) } })
    ∧ (AtHead 27 e rest s → Machine.exec .setPeek s = .next (accepted e rest { s with
      pane := { s.pane with peek := min 1023 (e.argU 0), peekLatch := none } }))
    ∧ (attention s = true ↔ ∃ i, i < 9 ∧ s.pane.flags.getLsbD i = true ∧ s.pane.mask.getLsbD i = true)
    ∧ paneWord s 0 = 0xC2724001
    ∧ Laid (paneWord s 1) [(21, 21, s.comp.pass.isSome.toNat), (20, 20, s.se.search.isSome.toNat), (17, 16, s.trk.state.code),
        (13, 8, s.port.strap.toNat), (5, 4, s.port.cause.code), (2, 0, s.port.op.code)]
    ∧ Laid (paneWord s 2) [(8, 0, s.pane.flags.toNat)]
    ∧ Laid (paneWord s 3) [(8, 0, (s.pane.flags &&& s.pane.mask).toNat)]
    ∧ Laid (paneWord s 4) [(8, 0, s.pane.mask.toNat)]
    ∧ Laid (paneWord s 5) [(31, 16, s.dir.progress.count.toNat), (15, 8, s.dir.progress.tag.toNat),
        (7, 0, s.dir.progress.kind.toNat)]
    ∧ Laid (paneWord s 6) [(31, 28, s.dir.progress.slot.toNat), (24, 24, s.dir.progress.reason.isSome.toNat),
        (19, 16, s.dir.progress.reason.elim 0 Reason.number), (12, 8, s.dir.queue.length)]
    ∧ (s.dir.queue = [] → paneWord s 7 = 0)
    ∧ (∀ x l, s.dir.queue = x :: l → Laid (paneWord s 7)
        [(31, 31, (decide (13 ≤ x.kind.toNat ∧ x.kind.toNat ≤ 22) && s.se.search.isSome).toNat), (27, 24, x.slot.toNat),
          (7, 0, x.kind.toNat)])
    ∧ Laid (paneWord s 8) [(27, 16, s.cu.pos.x.toNat), (11, 0, s.cu.pos.y.toNat)]
    ∧ Laid (paneWord s 9) [(31, 31, s.cu.edge.toNat), (30, 30, s.cu.inRange.toNat), (17, 16, s.cu.source.code),
        (3, 0, s.cu.prev.toNat)]
    ∧ (∀ k < 8, some (paneWord s (10 + k)) = s.se.result.words[k]?
        ∧ some (hostPaneWord s (10 + k)) = (if k = 0 then s.se.result else s.pane.resultLatch.getD s.se.result).words[k]?)
    ∧ (∀ k < 4, some (paneWord s (18 + k)) = s.band.commit.words[k]?
        ∧ some (hostPaneWord s (18 + k)) = (if k = 0 then s.band.commit else s.pane.commitLatch.getD s.band.commit).words[k]?
        ∧ some (paneWord s (22 + k)) = (faultWords s.flt.stopCause)[k]? ∧ some (paneWord s (26 + k)) = (faultWords s.flt.last)[k]?
        ∧ some (paneWord s (43 + k)) = copy.words[k]?
        ∧ some (hostPaneWord s (43 + k)) = (if k = 0 then copy else s.pane.peekLatch.getD copy).words[k]?)
    ∧ Laid (paneWord s 30) [(13, 0, s.flt.latch.toNat)]
    ∧ Laid (paneWord s 31) [(0, 0, (decide (s.trk.state = .lost)).toNat),
        (1, 1, (cur.elim false fun i => (s.hv.banks.get i).header.crowded).toNat), (2, 2, s.se.result.stale.toNat),
        (3, 3, (s.comp.serving.shedDash || s.comp.serving.shedTrail || s.comp.serving.shedMarker
          || s.comp.serving.shedBand).toNat),
        (4, 4, (!s.cu.inRange).toNat), (5, 5, s.pat.frozen.toNat), (6, 6, (decide (s.dir.queue.length = 16)).toNat)]
    ∧ paneWord s 32 = s.trk.frames
    ∧ (cur = none → Laid (paneWord s 33) [(31, 30, 3), (29, 28, bankNumber ready), (27, 26, bankNumber filling)]
        ∧ paneWord s 34 = 0 ∧ paneWord s 35 = 0 ∧ paneWord s 36 = 0)
    ∧ (∀ i h, cur = some i → h = (s.hv.banks.get i).header →
        Laid (paneWord s 33) [(31, 30, i.number), (29, 28, bankNumber ready), (27, 26, bankNumber filling),
          (25, 25, h.crowded.toNat), (24, 24, h.incomplete.toNat), (21, 11, h.half), (10, 0, (s.hv.banks.get i).entries.length)]
        ∧ paneWord s 34 = h.frame ∧ Laid (paneWord s 35) [(27, 16, h.centre.x.toNat), (11, 0, h.centre.y.toNat)]
        ∧ Laid (paneWord s 36) [(15, 0, h.dropped)])
    ∧ Laid (paneWord s 37) [(31, 31, s.comp.serving.dashCapped.toNat), (30, 30, s.comp.serving.shedDash.toNat),
        (29, 29, s.comp.serving.shedTrail.toNat), (28, 28, s.comp.serving.shedMarker.toNat),
        (27, 27, s.comp.serving.shedBand.toNat), (20, 16, s.comp.serving.shedCount), (10, 0, s.comp.serving.words.length)]
    ∧ Laid (paneWord s 38) [(15, 0, s.comp.serving.resultSeq.toNat)]
    ∧ (∀ k < 2, some (paneWord s (39 + k)) = s.flt.locates.e0.words[k]? ∧ some (paneWord s (41 + k)) = s.flt.locates.e1.words[k]?)
    ∧ Laid (paneWord s 47) [(10, 0, s.pane.peek)]
    ∧ (∀ k, 48 ≤ k → paneWord s k = 0)
    ∧ (∀ k, k < 10 ∨ (22 ≤ k ∧ k < 43) ∨ 47 ≤ k → hostPaneWord s k = paneWord s k)
    ∧ (∀ (tag : Tag) (a : Addr) (mem : Word),
      (∀ k < 64, Observes s → s.port.strap ≠ 63#6 → a.toNat = s.port.strap.toNat * 0x4000 + 0x80 + k →
        readAnswer tag a mem s = if tag = .host then hostPaneWord s k else paneWord s k)
      ∧ (¬ (Observes s ∧ InStrapBlock s.port.strap a.toNat ∧ s.port.strap.toNat * 0x4000 + 0x80 ≤ a.toNat) →
        (∀ m, Placed m s → s.port.op = .active → ∀ k < m.windowLen, a.toNat = m.windowBase.toNat + k →
          readAnswer tag a mem s = s.comp.serving.words[k]?.getD 0x70000000)
        ∧ (s.port.op ≠ .active ∨ (∀ m, s.port.config = some m → ¬ m.InWindow a.toNat) → readAnswer tag a mem s = mem)))

/-- R179, R182, R185: SET RESPONSES, CLEAR FAULTS and SET WATCH. -/
def Obligations.FaultSettingRows : Prop :=
  ∀ (e : DirEntry) (rest : List DirEntry) (s : State) (w : Watch),
    w = ⟨decide (e.argU 4 ≠ 0), BitVec.ofNat 20 (65536 * min 15 (e.argU 1) + e.argU 2),
      if e.argU 3 = 0 then .note else if e.argU 3 = 1 then .freeze else .locate⟩ →
    (AtHead 4 e rest s → Machine.exec .setResponses s = .next (accepted e rest { s with flt := { s.flt with
      responses := ⟨decide (e.argU 0 ≠ 0), decide (e.argU 1 ≠ 0), decide (e.argU 2 ≠ 0), decide (e.argU 3 ≠ 0),
        decide (e.argU 4 ≠ 0)⟩ } }))
    ∧ (AtHead 5 e rest s → Machine.exec .clearFaults s = .next (accepted e rest { s with flt := { s.flt with
      latch := 0, stopCause := none } }))
    ∧ (AtHead 6 e rest s → e.argU 0 = 0 → Machine.exec .setWatch s = .next (accepted e rest { s with flt := { s.flt with
      watches := ⟨w, s.flt.watches.e1⟩, locates := ⟨.none, s.flt.locates.e1⟩ } }))
    ∧ (AtHead 6 e rest s → e.argU 0 = 1 → Machine.exec .setWatch s = .next (accepted e rest { s with flt := { s.flt with
      watches := ⟨s.flt.watches.e0, w⟩, locates := ⟨s.flt.locates.e0, .none⟩ } }))
    ∧ (AtHead 6 e rest s → 2 ≤ e.argU 0 → Machine.exec .setWatch s = .next (refused e rest .indexRange s))

/-- R140 to R142: FREEZE, THAW and SET BLINK. `p` is what SET BLINK makes of the counters and outputs: with a preset or a change
of mode a reload, otherwise the counts stand and an output whose channel is not valid becomes ON. -/
def Obligations.FreezeAndBlinkRows : Prop :=
  ∀ (e : DirEntry) (rest : List DirEntry) (s : State) (p : Patterns) (ra ca rb cb r c : Nat) (cas : Bool),
    ra = min 255 (e.argU 1) → ca = min 255 (e.argU 2) → rb = min 255 (e.argU 3) → cb = min 255 (e.argU 4) →
    r = 256 * rb + ra → c = 256 * cb + ca → cas = decide (e.argU 0 ≠ 0) →
    (AtHead 7 e rest s → s.port.op = .active → Machine.exec .freeze s = .next (accepted e rest { s with
      pat := { s.pat with frozen := true } }))
    ∧ (AtHead 7 e rest s → s.port.op ≠ .active → Machine.exec .freeze s = .next (refused e rest .notActive s))
    ∧ (AtHead 8 e rest s → Machine.exec .thaw s = .next (accepted e rest { s with pat := { s.pat with frozen := false } }))
    ∧ (AtHead 9 e rest s →
      (e.argU 7 ≠ 0 ∨ cas ≠ s.pat.cascade → p = ⟨cas,
        ⟨ra, ca, decide (e.argU 5 ≠ 0), ra, if cas then decide (¬ (1 ≤ c ∧ c < r)) else decide (¬ (1 ≤ ca ∧ ca < ra))⟩,
        ⟨rb, cb, decide (e.argU 6 ≠ 0), rb, if cas then decide (¬ (1 ≤ c ∧ c < r)) else decide (¬ (1 ≤ cb ∧ cb < rb))⟩,
        s.pat.phase, s.pat.frozen⟩) →
      (e.argU 7 = 0 ∧ cas = s.pat.cascade → p = ⟨cas,
        ⟨ra, ca, decide (e.argU 5 ≠ 0), s.pat.a.count, s.pat.a.out ||
          (if cas then decide (¬ (1 ≤ c ∧ c ≤ r)) else decide (¬ (1 ≤ ca ∧ ca ≤ ra)))⟩,
        ⟨rb, cb, decide (e.argU 6 ≠ 0), s.pat.b.count, s.pat.b.out ||
          (if cas then decide (¬ (1 ≤ c ∧ c ≤ r)) else decide (¬ (1 ≤ cb ∧ cb ≤ rb)))⟩,
        s.pat.phase, s.pat.frozen⟩) →
      Machine.exec .setBlink s = .next (accepted e rest
        (if p.a.out = s.pat.a.out ∧ p.b.out = s.pat.b.out then { s with pat := p } else trigger { s with pat := p })))

/-- R90, R94, R95: SET INPUT and SET BUTTONS. With the source unchanged SET INPUT changes the settings and nothing more; with a
new source it releases the buttons and sets the proximity, a change of which is handled under R90. The owed start is a field of
the model (log 24). -/
def Obligations.InputRows : Prop :=
  ∀ (e : DirEntry) (rest : List DirEntry) (s : State) (src : Source) (cu : CursorUnit) (act : Nat → Option PressAction),
    src = (if e.argU 0 = 0 then .none else if e.argU 0 = 1 then .tablet else if e.argU 0 = 2 then .wheels else .directed) →
    cu = { s.cu with
      source := src
      ox := e.argU 1
      oy := e.argU 2
      gx := max 1 (e.argU 3)
      gy := max 1 (e.argU 4)
      wheel := max 1 (min 16 (e.argU 5)) } →
    (act = fun v => if v = 0 then none else if v = 1 then some .commit else if v = 2 then some .anchor else some .clear) →
    (AtHead 10 e rest s →
      (src = s.cu.source → Machine.exec .setInput s = .next (accepted e rest { s with cu := cu }))
      ∧ (src ≠ s.cu.source → decide (src = .wheels ∨ src = .directed) = s.cu.inRange →
        Machine.exec .setInput s = .next (accepted e rest { s with cu := { cu with prev := 0 } }))
      ∧ (src ≠ s.cu.source → src = .wheels ∨ src = .directed → s.cu.inRange = false →
        Machine.exec .setInput s = .next (accepted e rest (trigger { s with
          cu := { cu with prev := 0, inRange := true }
          pane := { s.pane with flags := s.pane.flags ||| 0x040#9 }
          se := { s.se with motion := s.se.motion || decide (s.port.op = .active) } })))
      ∧ (src ≠ s.cu.source → src = .none ∨ src = .tablet → s.cu.inRange = true →
        Machine.exec .setInput s = .next (accepted e rest (trigger { s with
          cu := { cu with prev := 0, inRange := false }
          pane := { s.pane with flags := s.pane.flags ||| 0x040#9 }
          se := { s.se with
            motion := false
            startOwed := s.se.startOwed && decide (s.se.presses ≠ [])
            result := { s.se.result with outOfRange := true } } }))))
    ∧ (AtHead 12 e rest s → Machine.exec .setButtons s = .next (accepted e rest { s with cu := { s.cu with
      map := #v[act (e.argU 0), act (e.argU 1), act (e.argU 2), act (e.argU 3)] } }))

/-- R43, R90, R96: SET CURSOR. Refused with WRONG SOURCE unless the source is DIRECTED; then the cursor moves, the proximity is
IN, and in ACTIVE one PRESS for each mapped button of the mask is filed, those beyond four lost with PRESS OVERRUN, or one
MOTION when the mask has none. A change of the proximity and a change of the position each trigger the composer. -/
def Obligations.CursorRow : Prop :=
  ∀ (e : DirEntry) (rest : List DirEntry) (s v : State) (p : Pt) (l : List (Fin 4)) (room : Nat), AtHead 11 e rest s →
    p = ⟨max 0 (min 4095 (e.argS 0)), max 0 (min 4095 (e.argS 1))⟩ →
    l = (if s.port.op = .active then ([0, 1, 2, 3] : List (Fin 4)).filter
      (fun b => decide (e.argU 2 / 2 ^ b.val % 2 = 1) && (s.cu.map[b]).isSome) else []) →
    room = 4 - s.se.presses.length →
    v = { s with
      cu := { s.cu with pos := p, edge := decide (¬ (⟨e.argS 0, e.argS 1⟩ : Pt).OnScreen), inRange := true }
      pane := { s.pane with flags := if s.cu.inRange then s.pane.flags else s.pane.flags ||| 0x040#9 }
      se := { s.se with
        presses := s.se.presses ++ (l.take room).map fun b => ⟨p, BitVec.twoPow 4 b.val⟩
        motion := if s.port.op = .active then decide (l = [] ∨ room < l.length) else s.se.motion }
      flt := { s.flt with raised := s.flt.raised
        ++ ((l.drop room).map fun b => ⟨.pressOverrun, (BitVec.twoPow 4 b.val).setWidth 20, 0⟩) } } →
    (s.cu.source ≠ .directed → Machine.exec .setCursor s = .next (refused e rest .wrongSource s))
    ∧ (s.cu.source = .directed → p = s.cu.pos → s.cu.inRange = true →
      Machine.exec .setCursor s = .next (accepted e rest v))
    ∧ (s.cu.source = .directed → (p = s.cu.pos ∧ s.cu.inRange = false) ∨ (p ≠ s.cu.pos ∧ s.cu.inRange = true) →
      Machine.exec .setCursor s = .next (accepted e rest (trigger v)))
    ∧ (s.cu.source = .directed → p ≠ s.cu.pos → s.cu.inRange = false →
      Machine.exec .setCursor s = .next (accepted e rest (trigger (trigger v))))

/-- R112, R132, R166: SET BAND, which sets φ to P − 1 or 0 too, SET STYLE, and a kind of 28 to 255, which is refused. -/
def Obligations.BandStyleUnknownRows : Prop :=
  ∀ (e : DirEntry) (rest : List DirEntry) (s : State) (n : Nat),
    n = (if e.argU 1 = 0 then 0 else max 2 (min 255 (e.argU 1))) →
    (AtHead 23 e rest s → Machine.exec .setBand s = .next (accepted e rest (trigger { s with
      band := { s.band with
        shape := if e.argU 0 = 0 then .none else if e.argU 0 = 1 then .line else if e.argU 0 = 2 then .box
          else if e.argU 0 = 3 then .circle else .poly
        period := n
        onLen := min 255 (e.argU 2)
        march := decide (e.argU 3 ≠ 0) }
      pat := { s.pat with phase := n - 1 } })))
    ∧ (AtHead 24 e rest s → Machine.exec .setStyle s = .next (accepted e rest (trigger { s with comp := { s.comp with
      style := ⟨if e.argU 0 = 0 then .cross else if e.argU 0 = 1 then .full else .box, max 1 (min 1024 (e.argU 1)),
        max 2 (min 64 (e.argU 2)), min 7 (e.argU 3), min 7 (e.argU 4), min 7 (e.argU 5)⟩ } })))
    ∧ (∀ k : BitVec 8, 28 ≤ k.toNat → AtHead k e rest s →
      Machine.exec .unknownKind s = .next (refused e rest .unknownKind s))

/-! ### Encoding -/

/-- R2, R114, R189, R191: the tracker reads back each record that the composer writes, and the words of a list of records within
range determine the list. The record words of 13.5 and the codes of their fields: result, commit, fault, locate and peek
records. An absent source reads as zero with NO-SOURCE set. -/
def Obligations.RecordsDecode : Prop :=
  (∀ (r : Rec) (w : Word) (l : List Word), r.Ok → r.encode = w :: l →
    (∀ i, r = .entity i → decodeHead w = .entity ⟨BitVec.ofNat 3 i, true, 0⟩ ∧ l = [])
    ∧ (∀ p, r = .move p → decodeHead w = .move p ∧ l = [])
    ∧ (∀ p, r = .draw p → decodeHead w = .draw p ∧ l = [])
    ∧ (∀ c n, r = .circle c n → decodeHead w = .circle c ∧ ∃ x, l = [x] ∧ circleRadius x = n)
    ∧ (r = .ret → decodeHead w = .ret ∧ l = []))
  ∧ (∀ k l : List Rec, (∀ r ∈ k, r.Ok) → (∀ r ∈ l, r.Ok) → recWords k = recWords l → k = l)
  ∧ (∀ r : Result, ∃ w0 w1 w2 w3 w4 w5 w7, r.words = [w0, w1, w2, w3, w4, w5, r.bankFrame, w7]
    ∧ Laid w0 [(31, 16, r.seq.toNat), (15, 15, r.press.toNat), (11, 8, r.kind.code), (7, 7, r.stale.toNat),
      (6, 6, r.withdrawn.toNat), (5, 5, r.edge.toNat), (4, 4, r.held.toNat), (3, 3, r.gridded.toNat),
      (2, 2, r.unconstrained.toNat), (1, 1, r.outOfRange.toNat), (0, 0, r.source.isNone.toNat)]
    ∧ Laid w1 [(27, 16, r.point.x.toNat), (11, 0, r.point.y.toNat)]
    ∧ Laid w2 [(27, 16, r.cursor.x.toNat), (11, 0, r.cursor.y.toNat)] ∧ Laid w3 [(31, 0, r.d2)]
    ∧ Laid w4 [(19, 0, r.source.elim 0 fun x => x.1.toNat)] ∧ Laid w5 [(15, 0, r.source.elim 0 fun x => x.2.toNat)]
    ∧ Laid w7 [(15, 0, r.seq.toNat)])
  ∧ (∀ c : CommitRecord, ∃ w0 w1 w2 w3, c.words = [w0, w1, w2, w3]
    ∧ Laid w0 [(31, 16, c.seq.toNat), (13, 12, c.action.code), (11, 11, c.full.toNat), (10, 10, c.source.isNone.toNat),
      (9, 8, c.button.val), (3, 0, c.kind.code)]
    ∧ Laid w1 [(27, 16, c.point.x.toNat), (11, 0, c.point.y.toNat)]
    ∧ Laid w2 [(19, 0, c.source.elim 0 fun x => x.1.toNat)]
    ∧ Laid w3 [(31, 16, c.source.elim 0 fun x => x.2.toNat), (15, 0, c.resultSeq.toNat)])
  ∧ faultWords none = [0, 0, 0, 0]
  ∧ (∀ f : FaultRecord, ∃ w0 w1 w2 w3, faultWords (some f) = [w0, w1, w2, w3]
    ∧ Laid w0 [(10, 8, f.code.classNumber), (7, 0, f.code.number)] ∧ Laid w1 [(19, 0, f.detail.toNat)]
    ∧ Laid w2 [(31, 16, f.frame.toNat), (7, 0, f.tag.toNat)] ∧ Laid w3 [(15, 0, f.seq.toNat)])
  ∧ Locate.none.words = [0, 0] ∧ Locate.unknown.words = [0x80000000, 0]
  ∧ (∀ (p : Pt) (depth : Nat) (tag : Half), ∃ w0 w1, (Locate.known p depth tag).words = [w0, w1]
    ∧ Laid w0 [(31, 30, 1), (27, 24, depth), (17, 17, (p.x % 2 ^ 17 / 2 ^ 16).toNat), (16, 16, (p.y % 2 ^ 17 / 2 ^ 16).toNat),
      (15, 0, tag.toNat)]
    ∧ Laid w1 [(31, 16, (p.x % 2 ^ 16).toNat), (15, 0, (p.y % 2 ^ 16).toNat)])
  ∧ (∀ n, (⟨n, none⟩ : PeekCopy).words = [0x80000000, 0, 0, 0])
  ∧ (∀ (n : Nat) (e : Entry), ∃ w0 w1 w2 w3, (⟨n, some e⟩ : PeekCopy).words = [w0, w1, w2, w3]
    ∧ (∀ k p, e.shape = .point k p →
      Laid w0 [(30, 30, e.withdrawn.toNat), (29, 28, 1), (27, 26, k.code), (25, 16, n), (15, 0, e.tag.toNat)]
      ∧ Laid w1 [(19, 0, e.source.addr.toNat)] ∧ Laid w2 [(31, 16, (p.x % 2 ^ 16).toNat), (15, 0, (p.y % 2 ^ 16).toNat)]
      ∧ w3 = 0)
    ∧ (∀ p q, e.shape = .segment p q →
      Laid w0 [(30, 30, e.withdrawn.toNat), (29, 28, 2), (25, 16, n), (15, 0, e.tag.toNat)]
      ∧ Laid w1 [(23, 23, (p.x % 2 ^ 17 / 2 ^ 16).toNat), (22, 22, (p.y % 2 ^ 17 / 2 ^ 16).toNat),
        (21, 21, (q.x % 2 ^ 17 / 2 ^ 16).toNat), (20, 20, (q.y % 2 ^ 17 / 2 ^ 16).toNat), (19, 0, e.source.addr.toNat)]
      ∧ Laid w2 [(31, 16, (p.x % 2 ^ 16).toNat), (15, 0, (p.y % 2 ^ 16).toNat)]
      ∧ Laid w3 [(31, 16, (q.x % 2 ^ 16).toNat), (15, 0, (q.y % 2 ^ 16).toNat)])
    ∧ (∀ c r, e.shape = .circle c r →
      Laid w0 [(30, 30, e.withdrawn.toNat), (29, 28, 3), (25, 16, n), (15, 0, e.tag.toNat)]
      ∧ Laid w1 [(23, 23, (c.x % 2 ^ 17 / 2 ^ 16).toNat), (22, 22, (c.y % 2 ^ 17 / 2 ^ 16).toNat),
        (19, 0, e.source.addr.toNat)]
      ∧ Laid w2 [(31, 16, (c.x % 2 ^ 16).toNat), (15, 0, (c.y % 2 ^ 16).toNat)] ∧ Laid w3 [(11, 0, r)]))
  ∧ ([.none, .object .endpoint, .object .midpoint, .object .centre, .object .quadrant, .object .nearest, .object .perpendicular,
      .grid, .constrained, .free] : List ResultKind).map ResultKind.code = [0, 1, 2, 3, 4, 5, 6, 7, 8, 9]
  ∧ ([.commit, .anchor, .clear] : List PressAction).map PressAction.code = [0, 1, 2]
  ∧ ([.endpoint, .midpoint, .centre, .quadrant] : List PointKind).map PointKind.code = [0, 1, 2, 3]
  ∧ ([.halted, .waiting, .tracking, .lost] : List TrackState).map TrackState.code = [0, 1, 2, 3]
  ∧ ([.disabled, .transparent, .passive, .active, .bypass] : List OpState).map OpState.code = [0, 1, 2, 3, 4]
  ∧ ([.power, .pin, .restart] : List ResetCause).map ResetCause.code = [1, 2, 3]
  ∧ ([.none, .tablet, .wheels, .directed] : List Source).map Source.code = [0, 1, 2, 3]
  ∧ ([.unknownKind, .badRegion, .wrongSource, .indexRange, .noContinuation, .trailFull, .trailEmpty, .notStopped,
      .notActive] : List Reason).map Reason.number = [1, 2, 3, 4, 5, 6, 7, 8, 9]
  ∧ ([.nestOverflow, .nestUnderflow, .trackLost, .unknownRecord, .frameAborted, .bankCrowded, .queueOverrun, .queueOverflow,
      .refused, .mailboxOrder, .pressOverrun, .commitFailed, .windowOverread, .windowEntry] : List FaultCode).map
      (fun c => (c.classNumber, c.number, c.latchIndex)) = [(1, 11, 0), (1, 12, 1), (1, 13, 2), (1, 14, 3), (1, 15, 4),
        (2, 21, 5), (2, 22, 6), (3, 31, 7), (3, 32, 8), (4, 41, 9), (4, 42, 10), (4, 43, 11), (5, 51, 12), (5, 52, 13)]

/-! ### Invariants -/

/-- Every invariant holds after a cold reset. That no raised fault waits there is the model's choice (log 8). -/
def Obligations.InvariantsAtReset : Prop := Safe State.reset

/-- R25, R46, R51, R98, R99, R112, R134, R139: a step of any command keeps the bank states and capacities, the trail and its
link to the anchor, the ranges of the pattern counters, and what the search in flight holds. -/
def Obligations.StepKeepsBlocks : Prop :=
  ∀ s t : State, Machine.step s = .next t →
    (BanksOk s → BanksOk t) ∧ (BandOk s → BandOk t) ∧ (PatternOk s → PatternOk t) ∧ (SearchOk s → SearchOk t)

/-- R8, R12, R15, R22, R40, R42, R60, R80, R85, R117, R142, R151, R153, R154, R162, R173: a step of any command keeps every
queue, stack and pointer within its capacity and a held region map formed and placed, and keeps what each operating state says
of the blocks. That no fault waits in DISABLED and TRANSPARENT (ModeOk.silent) is the model's choice (log 8). -/
def Obligations.StepKeepsCapacitiesAndModes : Prop :=
  ∀ s t : State, Machine.step s = .next t → (CapacityOk s → CapacityOk t) ∧ (ModeOk s → ModeOk t)

/-- R114, R119 to R126: a step of any command keeps both lists of the composer on the screen, within the window and ended by
their single RETURN. -/
def Obligations.StepKeepsLists : Prop :=
  ∀ s t : State, Machine.step s = .next t → DrawnOk s → DrawnOk t
end

