-- ==== Sys2Proof/Laws/Compose.lean ====
section
/-! SUPPORT. The composed list (chapter 7): what a layout composes equals the tables that the statements give, part by part. -/

namespace Sys2Proof.Machine

/-- Every record sets the pen point (R118). -/
def SetsPen (l : List Rec) : Prop := ∀ r ∈ l, penAfterRec none r ≠ none

/-- The pen point after two runs of records. -/
theorem penAfter_append (p : Option Pt) (a b : List Rec) : penAfter p (a ++ b) = penAfter (penAfter p a) b := by
  simp [penAfter, List.foldl_append]

/-- R118: the pen point after records is that of the last, when it sets one. -/
theorem penAfter_eq_penOver (p : Option Pt) (l : List Rec) (h : ∀ r, l.getLast? = some r → penAfterRec none r ≠ none) :
    penAfter p l = penOver p l := by
  unfold penOver
  rcases List.eq_nil_or_concat l with rfl | ⟨a, r, rfl⟩
  · simp [penAfter]
  · have := h r (by simp)
    rw [if_neg (by simp), List.concat_eq_append, penAfter_append]
    unfold lastPoint
    simp only [List.getLast?_append, List.getLast?_singleton, Option.some_or]
    cases r <;> simp [penAfter, penAfterRec] at *

/-- The last of records that all set the pen point sets it. -/
theorem SetsPen.last {l : List Rec} (h : SetsPen l) : ∀ r, l.getLast? = some r → penAfterRec none r ≠ none :=
  fun r hr => h r (List.mem_of_getLast? hr)

/-- R123: the test on the dash settings. -/
theorem dashesApply_eq (i : PassInputs) : dashesApply i.period i.onLen = decide (Dashing i) := by
  unfold dashesApply; simp [Bool.decide_and, Bool.and_assoc]

/-- R124: the test on the number of dashes. -/
theorem elementCapped_eq (i : PassInputs) (e : Element) : elementCapped i e = decide (Capped i (e.src, e.dst)) := by
  unfold elementCapped; rw [dashesApply_eq, Bool.eq_iff_iff]; unfold elementDashes dashesOf
  simp only [Bool.and_eq_true, decide_eq_true_eq, Capped, dashesOf, and_assoc]

/-- R123, R124: the test whether an element is dashed. -/
theorem elementDashed_eq (i : PassInputs) (e : Element) : elementDashed i e = decide (Dashed i (e.src, e.dst)) := by
  unfold elementDashed; rw [dashesApply_eq, elementCapped_eq]; simp only [Dashed, Bool.decide_and, decide_not]

/-- R109, R110: the straight live elements. -/
theorem bandLines_eq (i : PassInputs) : bandLines i = (liveElements i).map fun e => (e.src, e.dst) := by
  unfold bandLines liveElements; cases i.anchor <;> cases i.shape <;> simp

/-- R121, R123: the records of one element. -/
theorem elementRecs_eq (i : PassInputs) (b : Bool) (pen : Option Pt) (e : Element) :
    elementRecs i b pen e = lineRecs i b pen (e.src, e.dst) := by
  unfold elementRecs lineRecs; rw [elementDashed_eq]
  by_cases h : b = true ∨ ¬ Dashed i (e.src, e.dst)
  · rw [if_pos h, if_neg (by rcases h with h | h <;> simp [h])]; rfl
  · rw [if_neg h]; have := not_or.1 h
    rw [if_pos (by rw [Bool.and_eq_true, decide_eq_true_eq]; exact ⟨by simpa using this.1, not_not.1 this.2⟩)]; rfl

/-- Every record of an element sets the pen point. -/
theorem lineRecs_setsPen (i b pen x) : SetsPen (lineRecs i b pen x) := by
  unfold lineRecs SetsPen; intro r hr
  (repeat' split at hr) <;> simp at hr
  · subst hr; simp [penAfterRec]
  · rcases hr with rfl | rfl <;> simp [penAfterRec]
  · rcases hr with rfl | rfl <;> simp [penAfterRec]
  · obtain ⟨a, c, _, rfl | rfl⟩ := hr <;> simp [penAfterRec]

/-- R121: the records of elements in order. -/
theorem elementsRecs_eq (i b) (l : List Element) (pen) : elementsRecs i b pen l = linesRecs i b pen (l.map fun e => (e.src, e.dst)) := by
  induction l generalizing pen with
  | nil => simp [elementsRecs, linesRecs]
  | cons e l ih => simp only [elementsRecs, List.map_cons, linesRecs, elementRecs_eq]
                   rw [ih, penAfter_eq_penOver _ _ (SetsPen.last (lineRecs_setsPen _ _ _ _))]

/-- R122: the trail chain. -/
theorem chainRecs_eq (i b d) : chainRecs i b d = chainTable i b d := by
  unfold chainRecs chainTable
  have : (liveElements i).any (fun e => b || !elementDashed i e) = decide (∃ x ∈ bandLines i, b = true ∨ ¬ Dashed i x) := by
    rw [bandLines_eq, Bool.eq_iff_iff]; simp only [List.any_eq_true, decide_eq_true_eq, List.mem_map]
    constructor
    · rintro ⟨e, he, h⟩; refine ⟨_, ⟨e, he, rfl⟩, ?_⟩; rw [elementDashed_eq] at h
      simpa only [Bool.or_eq_true, Bool.not_eq_true', decide_eq_false_iff_not] using h
    · rintro ⟨_, ⟨e, he, rfl⟩, h⟩; refine ⟨e, he, ?_⟩; rw [elementDashed_eq]
      simpa only [Bool.or_eq_true, Bool.not_eq_true', decide_eq_false_iff_not] using h
  rw [this]
  split <;> rename_i heq <;> rw [heq]
  · rename_i v; by_cases h : ∃ x ∈ bandLines i, b = true ∨ ¬ Dashed i x <;> simp only [h] <;> simp
  · simp

/-- Every record of the trail chain sets the pen point. -/
theorem chainTable_setsPen (i b d) : SetsPen (chainTable i b d) := by
  unfold chainTable SetsPen; intro r hr
  split at hr <;> simp at hr
  rcases hr with rfl | ⟨a, _, rfl⟩ | hr
  · simp [penAfterRec]
  · simp [penAfterRec]
  · obtain ⟨_, rfl⟩ := hr; simp [penAfterRec]

/-- R122: the band's records. -/
theorem bandRecs_eq (i b d pen) : bandRecs i b d pen = bandTable i b d pen := by
  unfold bandRecs bandTable
  cases i.shape with
  | none => rfl
  | line => simp only [elementsRecs_eq, bandLines_eq]
  | box => simp only [elementsRecs_eq, bandLines_eq]
  | circle => rfl
  | poly =>
    simp only [elementsRecs_eq, bandLines_eq, chainRecs_eq]
    rw [penAfter_eq_penOver _ _ (SetsPen.last (chainTable_setsPen _ _ _))]

/-- R118: a part. -/
theorem withEntity_eq_part (n l) : withEntity n l = part n l := by cases l <;> simp [withEntity, part]

/-- R119: the cursor glyph. -/
theorem cursorGlyph_eq (g a p) : cursorGlyph g a p = cursorTable g a p.x p.y := by cases g <;> rfl

/-- R120: the marker glyph. -/
theorem markerGlyph_eq (k s p) : markerGlyph k s p = markerTable k s p.x p.y := by
  cases k with
  | object k => cases k <;> rfl
  | _ => rfl

/-- R118, R119: the cursor part. -/
theorem cursorPart_eq (i) : cursorPart i = if i.inRange = true ∧ i.cursorGate = true
      then part i.style.cursorIntensity (cursorTable i.style.glyph i.style.arm i.cursor.x i.cursor.y) else [] := by
  unfold cursorPart; rw [cursorGlyph_eq]; simp only [Bool.and_eq_true]
  split
  · cases i.style.glyph <;> rfl
  · rfl

/-- R118, R120: the marker part. -/
theorem markerPart_eq (i) : markerPart i = markerOf i := by unfold markerPart markerOf; rw [withEntity_eq_part, markerGlyph_eq]

/-- A cursor part ends in a record that sets the pen point. -/
theorem cursorPart_last (i) : ∀ r, (cursorPart i).getLast? = some r → penAfterRec none r ≠ none := by
  intro r hr; rw [cursorPart_eq] at hr; split at hr
  · cases hg : i.style.glyph <;> simp [hg, part, cursorTable, moveTo, drawTo] at hr <;> subst hr <;> simp [penAfterRec]
  · simp at hr

/-- A marker part ends in a record that sets the pen point. -/
theorem markerOf_last (i) : ∀ r, (markerOf i).getLast? = some r → penAfterRec none r ≠ none := by
  intro r hr; unfold markerOf at hr; split at hr
  · cases hk : i.resultKind with
    | object k => cases k <;> simp [hk, part, markerTable, moveTo, drawTo] at hr <;> subst hr <;> simp [penAfterRec]
    | _ => simp [hk, part, markerTable, moveTo, drawTo] at hr <;> try (subst hr; simp [penAfterRec])
  · simp at hr

/-- R118: what a layout composes is the table of its parts. -/
theorem layoutRecs_eq (i l) : layoutRecs i l = listOf i l := by
  unfold layoutRecs listOf; rw [markerPart_eq]; dsimp only; unfold bandPart
  rw [withEntity_eq_part, bandRecs_eq, penAfter_eq_penOver, cursorPart_eq]
  intro r hr
  rw [List.getLast?_append] at hr
  cases hm : (if l.marker = true then markerOf i else []).getLast? with
  | none => rw [hm] at hr; exact cursorPart_last i r hr
  | some q => rw [hm] at hr; simp at hr; subst hr; split at hm
              · exact markerOf_last i _ hm
              · simp at hm

/-- R118: no part is composed when the full layout is the RETURN alone. -/
theorem noPart_iff (i) : noPart i = true ↔ listOf i ⟨false, 0, true, true⟩ = [.ret] := by unfold noPart; rw [layoutRecs_eq]; simp

/-- R124: DASH CAPPED. -/
theorem anyCapped_eq (i) : anyCapped i = decide (∃ x ∈ bandLines i, Capped i x) := by
  unfold anyCapped; rw [bandLines_eq, Bool.eq_iff_iff]; simp only [List.any_eq_true, decide_eq_true_eq, List.mem_map]
  constructor
  · rintro ⟨e, he, h⟩; exact ⟨_, ⟨e, he, rfl⟩, by rw [elementCapped_eq] at h; simpa using h⟩
  · rintro ⟨_, ⟨e, he, rfl⟩, h⟩; exact ⟨e, he, by rw [elementCapped_eq]; simpa using h⟩

/-- R125, step 1: there is a dashed element to make solid. -/
theorem shedDashes_eq (i) : shedDashes i = decide (∃ x ∈ bandLines i, Dashed i x) := by
  unfold shedDashes; rw [bandLines_eq, Bool.eq_iff_iff]; simp only [List.any_eq_true, decide_eq_true_eq, List.mem_map]
  constructor
  · rintro ⟨e, he, h⟩; exact ⟨_, ⟨e, he, rfl⟩, by rw [elementDashed_eq] at h; exact of_decide_eq_true h⟩
  · rintro ⟨_, ⟨e, he, rfl⟩, h⟩; exact ⟨e, he, by rw [elementDashed_eq]; exact decide_eq_true h⟩

/-- Whether an element has records does not depend on the pen point. -/
theorem lineRecs_eq_nil_iff (i b p q x) : lineRecs i b p x = [] ↔ lineRecs i b q x = [] := by
  unfold lineRecs; split
  · constructor <;> intro h <;> split at h <;> simp at h
  · split <;> rfl

/-- Whether elements have records does not depend on the pen point. -/
theorem linesRecs_eq_nil_iff (i b) (l) (p q) : linesRecs i b p l = [] ↔ linesRecs i b q l = [] := by
  induction l generalizing p q with
  | nil => simp [linesRecs]
  | cons x l ih => simp only [linesRecs, List.append_eq_nil_iff]; rw [lineRecs_eq_nil_iff i b p q x]
                   constructor <;> rintro ⟨a, c⟩ <;> exact ⟨a, (ih _ _).1 c⟩

/-- R125: a layout fits when its words do. -/
theorem fits_iff (i l) : fits i l = true ↔ (recWords (listOf i l)).length ≤ i.windowLen := by unfold fits; rw [layoutRecs_eq]; simp

/-- R125: the cursor part alone fits every window. -/
theorem cursorAlone_fits (i : PassInputs) (n) (h : 32 ≤ i.windowLen) :
    (recWords (listOf i ⟨true, n, false, false⟩)).length ≤ i.windowLen := by
  unfold listOf; simp only
  split
  · cases hg : i.style.glyph <;> simp [part, cursorTable, moveTo, drawTo, recWords, Rec.encode] <;> omega
  · simp [recWords, Rec.encode]; omega

end Sys2Proof.Machine
end

