-- ==== Sys2Proof/Laws/State.lean ====
section
/-! SUPPORT. What each update of the state gives every block: one lemma per update and block, true by rfl. -/

namespace Sys2Proof.Machine

variable (s : State)

/-! ### setEvent -/

@[simp] theorem setEvent_port (e : Event) : (setEvent e s).port = s.port := rfl
@[simp] theorem setEvent_bus (e : Event) : (setEvent e s).bus = s.bus := rfl
@[simp] theorem setEvent_trk (e : Event) : (setEvent e s).trk = s.trk := rfl
@[simp] theorem setEvent_hv (e : Event) : (setEvent e s).hv = s.hv := rfl
@[simp] theorem setEvent_se (e : Event) : (setEvent e s).se = s.se := rfl
@[simp] theorem setEvent_cu (e : Event) : (setEvent e s).cu = s.cu := rfl
@[simp] theorem setEvent_band (e : Event) : (setEvent e s).band = s.band := rfl
@[simp] theorem setEvent_comp (e : Event) : (setEvent e s).comp = s.comp := rfl
@[simp] theorem setEvent_pat (e : Event) : (setEvent e s).pat = s.pat := rfl
@[simp] theorem setEvent_dir (e : Event) : (setEvent e s).dir = s.dir := rfl
@[simp] theorem setEvent_pane (e : Event) : (setEvent e s).pane = { s.pane with flags := s.pane.flags ||| e.bit } := rfl
@[simp] theorem setEvent_flt (e : Event) : (setEvent e s).flt = s.flt := rfl
@[simp] theorem setEvent_orderChoices (e : Event) : (setEvent e s).orderChoices = s.orderChoices := rfl
@[simp] theorem setEvent_pending (e : Event) : (setEvent e s).pending = s.pending := rfl

/-! ### clearEventMask -/

@[simp] theorem clearEventMask_port (m : BitVec 9) : (clearEventMask m s).port = s.port := rfl
@[simp] theorem clearEventMask_bus (m : BitVec 9) : (clearEventMask m s).bus = s.bus := rfl
@[simp] theorem clearEventMask_trk (m : BitVec 9) : (clearEventMask m s).trk = s.trk := rfl
@[simp] theorem clearEventMask_hv (m : BitVec 9) : (clearEventMask m s).hv = s.hv := rfl
@[simp] theorem clearEventMask_se (m : BitVec 9) : (clearEventMask m s).se = s.se := rfl
@[simp] theorem clearEventMask_cu (m : BitVec 9) : (clearEventMask m s).cu = s.cu := rfl
@[simp] theorem clearEventMask_band (m : BitVec 9) : (clearEventMask m s).band = s.band := rfl
@[simp] theorem clearEventMask_comp (m : BitVec 9) : (clearEventMask m s).comp = s.comp := rfl
@[simp] theorem clearEventMask_pat (m : BitVec 9) : (clearEventMask m s).pat = s.pat := rfl
@[simp] theorem clearEventMask_dir (m : BitVec 9) : (clearEventMask m s).dir = s.dir := rfl
@[simp] theorem clearEventMask_pane (m : BitVec 9) :
    (clearEventMask m s).pane = { s.pane with flags := s.pane.flags &&& ~~~ m } := rfl
@[simp] theorem clearEventMask_flt (m : BitVec 9) : (clearEventMask m s).flt = s.flt := rfl
@[simp] theorem clearEventMask_orderChoices (m : BitVec 9) : (clearEventMask m s).orderChoices = s.orderChoices := rfl
@[simp] theorem clearEventMask_pending (m : BitVec 9) : (clearEventMask m s).pending = s.pending := rfl

/-! ### raise -/

@[simp] theorem raise_port (c : FaultCode) (d : BitVec 20) (t : BitVec 8) : (raise c d t s).port = s.port := rfl
@[simp] theorem raise_bus (c : FaultCode) (d : BitVec 20) (t : BitVec 8) : (raise c d t s).bus = s.bus := rfl
@[simp] theorem raise_trk (c : FaultCode) (d : BitVec 20) (t : BitVec 8) : (raise c d t s).trk = s.trk := rfl
@[simp] theorem raise_hv (c : FaultCode) (d : BitVec 20) (t : BitVec 8) : (raise c d t s).hv = s.hv := rfl
@[simp] theorem raise_se (c : FaultCode) (d : BitVec 20) (t : BitVec 8) : (raise c d t s).se = s.se := rfl
@[simp] theorem raise_cu (c : FaultCode) (d : BitVec 20) (t : BitVec 8) : (raise c d t s).cu = s.cu := rfl
@[simp] theorem raise_band (c : FaultCode) (d : BitVec 20) (t : BitVec 8) : (raise c d t s).band = s.band := rfl
@[simp] theorem raise_comp (c : FaultCode) (d : BitVec 20) (t : BitVec 8) : (raise c d t s).comp = s.comp := rfl
@[simp] theorem raise_pat (c : FaultCode) (d : BitVec 20) (t : BitVec 8) : (raise c d t s).pat = s.pat := rfl
@[simp] theorem raise_dir (c : FaultCode) (d : BitVec 20) (t : BitVec 8) : (raise c d t s).dir = s.dir := rfl
@[simp] theorem raise_pane (c : FaultCode) (d : BitVec 20) (t : BitVec 8) : (raise c d t s).pane = s.pane := rfl
@[simp] theorem raise_flt (c : FaultCode) (d : BitVec 20) (t : BitVec 8) :
    (raise c d t s).flt = { s.flt with raised := s.flt.raised ++ [⟨c, d, t⟩] } := rfl
@[simp] theorem raise_orderChoices (c : FaultCode) (d : BitVec 20) (t : BitVec 8) :
    (raise c d t s).orderChoices = s.orderChoices := rfl
@[simp] theorem raise_pending (c : FaultCode) (d : BitVec 20) (t : BitVec 8) :
    (raise c d t s).pending = s.pending := rfl

/-! ### setBanks -/

@[simp] theorem setBanks_port (b : Triplet Bank) : (setBanks b s).port = s.port := rfl
@[simp] theorem setBanks_bus (b : Triplet Bank) : (setBanks b s).bus = s.bus := rfl
@[simp] theorem setBanks_trk (b : Triplet Bank) : (setBanks b s).trk = s.trk := rfl
@[simp] theorem setBanks_hv (b : Triplet Bank) : (setBanks b s).hv = { s.hv with banks := b } := rfl
@[simp] theorem setBanks_se (b : Triplet Bank) : (setBanks b s).se = s.se := rfl
@[simp] theorem setBanks_cu (b : Triplet Bank) : (setBanks b s).cu = s.cu := rfl
@[simp] theorem setBanks_band (b : Triplet Bank) : (setBanks b s).band = s.band := rfl
@[simp] theorem setBanks_comp (b : Triplet Bank) : (setBanks b s).comp = s.comp := rfl
@[simp] theorem setBanks_pat (b : Triplet Bank) : (setBanks b s).pat = s.pat := rfl
@[simp] theorem setBanks_dir (b : Triplet Bank) : (setBanks b s).dir = s.dir := rfl
@[simp] theorem setBanks_pane (b : Triplet Bank) : (setBanks b s).pane = s.pane := rfl
@[simp] theorem setBanks_flt (b : Triplet Bank) : (setBanks b s).flt = s.flt := rfl
@[simp] theorem setBanks_orderChoices (b : Triplet Bank) : (setBanks b s).orderChoices = s.orderChoices := rfl
@[simp] theorem setBanks_pending (b : Triplet Bank) : (setBanks b s).pending = s.pending := rfl

/-! ### abandonSearch -/

@[simp] theorem abandonSearch_port : (abandonSearch s).port = s.port := rfl
@[simp] theorem abandonSearch_bus : (abandonSearch s).bus = s.bus := rfl
@[simp] theorem abandonSearch_trk : (abandonSearch s).trk = s.trk := rfl
@[simp] theorem abandonSearch_hv : (abandonSearch s).hv = s.hv := rfl
@[simp] theorem abandonSearch_se :
    (abandonSearch s).se = { s.se with presses := [], motion := false, search := none, startOwed := false } := rfl
@[simp] theorem abandonSearch_cu : (abandonSearch s).cu = s.cu := rfl
@[simp] theorem abandonSearch_band : (abandonSearch s).band = s.band := rfl
@[simp] theorem abandonSearch_comp : (abandonSearch s).comp = s.comp := rfl
@[simp] theorem abandonSearch_pat : (abandonSearch s).pat = s.pat := rfl
@[simp] theorem abandonSearch_dir : (abandonSearch s).dir = s.dir := rfl
@[simp] theorem abandonSearch_pane : (abandonSearch s).pane = s.pane := rfl
@[simp] theorem abandonSearch_flt : (abandonSearch s).flt = s.flt := rfl
@[simp] theorem abandonSearch_orderChoices : (abandonSearch s).orderChoices = s.orderChoices := rfl
@[simp] theorem abandonSearch_pending : (abandonSearch s).pending = s.pending := rfl

/-! ### emptyHarvest -/

@[simp] theorem emptyHarvest_port : (emptyHarvest s).port = s.port := rfl
@[simp] theorem emptyHarvest_bus : (emptyHarvest s).bus = s.bus := rfl
@[simp] theorem emptyHarvest_trk : (emptyHarvest s).trk = s.trk := rfl
@[simp] theorem emptyHarvest_hv : (emptyHarvest s).hv = Harvester.emptied := rfl
@[simp] theorem emptyHarvest_se : (emptyHarvest s).se = s.se := rfl
@[simp] theorem emptyHarvest_cu : (emptyHarvest s).cu = s.cu := rfl
@[simp] theorem emptyHarvest_band : (emptyHarvest s).band = s.band := rfl
@[simp] theorem emptyHarvest_comp : (emptyHarvest s).comp = s.comp := rfl
@[simp] theorem emptyHarvest_pat : (emptyHarvest s).pat = s.pat := rfl
@[simp] theorem emptyHarvest_dir : (emptyHarvest s).dir = s.dir := rfl
@[simp] theorem emptyHarvest_pane : (emptyHarvest s).pane = s.pane := rfl
@[simp] theorem emptyHarvest_flt : (emptyHarvest s).flt = s.flt := rfl
@[simp] theorem emptyHarvest_orderChoices : (emptyHarvest s).orderChoices = s.orderChoices := rfl
@[simp] theorem emptyHarvest_pending : (emptyHarvest s).pending = s.pending := rfl

/-! ### discardLists -/

@[simp] theorem discardLists_port : (discardLists s).port = s.port := rfl
@[simp] theorem discardLists_bus : (discardLists s).bus = s.bus := rfl
@[simp] theorem discardLists_trk : (discardLists s).trk = s.trk := rfl
@[simp] theorem discardLists_hv : (discardLists s).hv = s.hv := rfl
@[simp] theorem discardLists_se : (discardLists s).se = s.se := rfl
@[simp] theorem discardLists_cu : (discardLists s).cu = s.cu := rfl
@[simp] theorem discardLists_band : (discardLists s).band = s.band := rfl
@[simp] theorem discardLists_comp : (discardLists s).comp = s.comp.cleared := rfl
@[simp] theorem discardLists_pat : (discardLists s).pat = s.pat := rfl
@[simp] theorem discardLists_dir : (discardLists s).dir = s.dir := rfl
@[simp] theorem discardLists_pane : (discardLists s).pane = s.pane := rfl
@[simp] theorem discardLists_flt : (discardLists s).flt = s.flt := rfl
@[simp] theorem discardLists_orderChoices : (discardLists s).orderChoices = s.orderChoices := rfl
@[simp] theorem discardLists_pending : (discardLists s).pending = s.pending := rfl

/-! ### restartTracker -/

@[simp] theorem restartTracker_port (st : TrackState) : (restartTracker st s).port = s.port := rfl
@[simp] theorem restartTracker_bus (st : TrackState) : (restartTracker st s).bus = s.bus := rfl
@[simp] theorem restartTracker_trk (st : TrackState) :
    (restartTracker st s).trk = { s.trk with state := st, record := none, calls := [], frameOpen := false, inWindow := false } := rfl
@[simp] theorem restartTracker_hv (st : TrackState) : (restartTracker st s).hv = s.hv := rfl
@[simp] theorem restartTracker_se (st : TrackState) : (restartTracker st s).se = s.se := rfl
@[simp] theorem restartTracker_cu (st : TrackState) : (restartTracker st s).cu = s.cu := rfl
@[simp] theorem restartTracker_band (st : TrackState) : (restartTracker st s).band = s.band := rfl
@[simp] theorem restartTracker_comp (st : TrackState) : (restartTracker st s).comp = s.comp := rfl
@[simp] theorem restartTracker_pat (st : TrackState) : (restartTracker st s).pat = s.pat := rfl
@[simp] theorem restartTracker_dir (st : TrackState) : (restartTracker st s).dir = s.dir := rfl
@[simp] theorem restartTracker_pane (st : TrackState) : (restartTracker st s).pane = s.pane := rfl
@[simp] theorem restartTracker_flt (st : TrackState) : (restartTracker st s).flt = s.flt := rfl
@[simp] theorem restartTracker_orderChoices (st : TrackState) :
    (restartTracker st s).orderChoices = s.orderChoices := rfl
@[simp] theorem restartTracker_pending (st : TrackState) : (restartTracker st s).pending = s.pending := rfl

/-! ### setFrozen -/

@[simp] theorem setFrozen_port (f : Bool) : (setFrozen f s).port = s.port := rfl
@[simp] theorem setFrozen_bus (f : Bool) : (setFrozen f s).bus = s.bus := rfl
@[simp] theorem setFrozen_trk (f : Bool) : (setFrozen f s).trk = s.trk := rfl
@[simp] theorem setFrozen_hv (f : Bool) : (setFrozen f s).hv = s.hv := rfl
@[simp] theorem setFrozen_se (f : Bool) : (setFrozen f s).se = s.se := rfl
@[simp] theorem setFrozen_cu (f : Bool) : (setFrozen f s).cu = s.cu := rfl
@[simp] theorem setFrozen_band (f : Bool) : (setFrozen f s).band = s.band := rfl
@[simp] theorem setFrozen_comp (f : Bool) : (setFrozen f s).comp = s.comp := rfl
@[simp] theorem setFrozen_pat (f : Bool) : (setFrozen f s).pat = { s.pat with frozen := f } := rfl
@[simp] theorem setFrozen_dir (f : Bool) : (setFrozen f s).dir = s.dir := rfl
@[simp] theorem setFrozen_pane (f : Bool) : (setFrozen f s).pane = s.pane := rfl
@[simp] theorem setFrozen_flt (f : Bool) : (setFrozen f s).flt = s.flt := rfl
@[simp] theorem setFrozen_orderChoices (f : Bool) : (setFrozen f s).orderChoices = s.orderChoices := rfl
@[simp] theorem setFrozen_pending (f : Bool) : (setFrozen f s).pending = s.pending := rfl

/-! ### setOp -/

@[simp] theorem setOp_port (op : OpState) : (setOp op s).port = { s.port with op := op } := rfl
@[simp] theorem setOp_bus (op : OpState) : (setOp op s).bus = s.bus := rfl
@[simp] theorem setOp_trk (op : OpState) : (setOp op s).trk = s.trk := rfl
@[simp] theorem setOp_hv (op : OpState) : (setOp op s).hv = s.hv := rfl
@[simp] theorem setOp_se (op : OpState) : (setOp op s).se = s.se := rfl
@[simp] theorem setOp_cu (op : OpState) : (setOp op s).cu = s.cu := rfl
@[simp] theorem setOp_band (op : OpState) : (setOp op s).band = s.band := rfl
@[simp] theorem setOp_comp (op : OpState) : (setOp op s).comp = s.comp := rfl
@[simp] theorem setOp_pat (op : OpState) : (setOp op s).pat = s.pat := rfl
@[simp] theorem setOp_dir (op : OpState) : (setOp op s).dir = s.dir := rfl
@[simp] theorem setOp_pane (op : OpState) : (setOp op s).pane = s.pane := rfl
@[simp] theorem setOp_flt (op : OpState) : (setOp op s).flt = s.flt := rfl
@[simp] theorem setOp_orderChoices (op : OpState) : (setOp op s).orderChoices = s.orderChoices := rfl
@[simp] theorem setOp_pending (op : OpState) : (setOp op s).pending = s.pending := rfl

/-! ### setTrk -/

@[simp] theorem setTrk_port (t : Tracker) : (setTrk t s).port = s.port := rfl
@[simp] theorem setTrk_bus (t : Tracker) : (setTrk t s).bus = s.bus := rfl
@[simp] theorem setTrk_trk (t : Tracker) : (setTrk t s).trk = t := rfl
@[simp] theorem setTrk_hv (t : Tracker) : (setTrk t s).hv = s.hv := rfl
@[simp] theorem setTrk_se (t : Tracker) : (setTrk t s).se = s.se := rfl
@[simp] theorem setTrk_cu (t : Tracker) : (setTrk t s).cu = s.cu := rfl
@[simp] theorem setTrk_band (t : Tracker) : (setTrk t s).band = s.band := rfl
@[simp] theorem setTrk_comp (t : Tracker) : (setTrk t s).comp = s.comp := rfl
@[simp] theorem setTrk_pat (t : Tracker) : (setTrk t s).pat = s.pat := rfl
@[simp] theorem setTrk_dir (t : Tracker) : (setTrk t s).dir = s.dir := rfl
@[simp] theorem setTrk_pane (t : Tracker) : (setTrk t s).pane = s.pane := rfl
@[simp] theorem setTrk_flt (t : Tracker) : (setTrk t s).flt = s.flt := rfl
@[simp] theorem setTrk_orderChoices (t : Tracker) : (setTrk t s).orderChoices = s.orderChoices := rfl
@[simp] theorem setTrk_pending (t : Tracker) : (setTrk t s).pending = s.pending := rfl

/-! ### setCu -/

@[simp] theorem setCu_port (c : CursorUnit) : (setCu c s).port = s.port := rfl
@[simp] theorem setCu_bus (c : CursorUnit) : (setCu c s).bus = s.bus := rfl
@[simp] theorem setCu_trk (c : CursorUnit) : (setCu c s).trk = s.trk := rfl
@[simp] theorem setCu_hv (c : CursorUnit) : (setCu c s).hv = s.hv := rfl
@[simp] theorem setCu_se (c : CursorUnit) : (setCu c s).se = s.se := rfl
@[simp] theorem setCu_cu (c : CursorUnit) : (setCu c s).cu = c := rfl
@[simp] theorem setCu_band (c : CursorUnit) : (setCu c s).band = s.band := rfl
@[simp] theorem setCu_comp (c : CursorUnit) : (setCu c s).comp = s.comp := rfl
@[simp] theorem setCu_pat (c : CursorUnit) : (setCu c s).pat = s.pat := rfl
@[simp] theorem setCu_dir (c : CursorUnit) : (setCu c s).dir = s.dir := rfl
@[simp] theorem setCu_pane (c : CursorUnit) : (setCu c s).pane = s.pane := rfl
@[simp] theorem setCu_flt (c : CursorUnit) : (setCu c s).flt = s.flt := rfl
@[simp] theorem setCu_orderChoices (c : CursorUnit) : (setCu c s).orderChoices = s.orderChoices := rfl
@[simp] theorem setCu_pending (c : CursorUnit) : (setCu c s).pending = s.pending := rfl

/-! ### setBandUnit -/

@[simp] theorem setBandUnit_port (b : Band) : (setBandUnit b s).port = s.port := rfl
@[simp] theorem setBandUnit_bus (b : Band) : (setBandUnit b s).bus = s.bus := rfl
@[simp] theorem setBandUnit_trk (b : Band) : (setBandUnit b s).trk = s.trk := rfl
@[simp] theorem setBandUnit_hv (b : Band) : (setBandUnit b s).hv = s.hv := rfl
@[simp] theorem setBandUnit_se (b : Band) : (setBandUnit b s).se = s.se := rfl
@[simp] theorem setBandUnit_cu (b : Band) : (setBandUnit b s).cu = s.cu := rfl
@[simp] theorem setBandUnit_band (b : Band) : (setBandUnit b s).band = b := rfl
@[simp] theorem setBandUnit_comp (b : Band) : (setBandUnit b s).comp = s.comp := rfl
@[simp] theorem setBandUnit_pat (b : Band) : (setBandUnit b s).pat = s.pat := rfl
@[simp] theorem setBandUnit_dir (b : Band) : (setBandUnit b s).dir = s.dir := rfl
@[simp] theorem setBandUnit_pane (b : Band) : (setBandUnit b s).pane = s.pane := rfl
@[simp] theorem setBandUnit_flt (b : Band) : (setBandUnit b s).flt = s.flt := rfl
@[simp] theorem setBandUnit_orderChoices (b : Band) : (setBandUnit b s).orderChoices = s.orderChoices := rfl
@[simp] theorem setBandUnit_pending (b : Band) : (setBandUnit b s).pending = s.pending := rfl

/-! ### setSe -/

@[simp] theorem setSe_port (e : SearchEngine) : (setSe e s).port = s.port := rfl
@[simp] theorem setSe_bus (e : SearchEngine) : (setSe e s).bus = s.bus := rfl
@[simp] theorem setSe_trk (e : SearchEngine) : (setSe e s).trk = s.trk := rfl
@[simp] theorem setSe_hv (e : SearchEngine) : (setSe e s).hv = s.hv := rfl
@[simp] theorem setSe_se (e : SearchEngine) : (setSe e s).se = e := rfl
@[simp] theorem setSe_cu (e : SearchEngine) : (setSe e s).cu = s.cu := rfl
@[simp] theorem setSe_band (e : SearchEngine) : (setSe e s).band = s.band := rfl
@[simp] theorem setSe_comp (e : SearchEngine) : (setSe e s).comp = s.comp := rfl
@[simp] theorem setSe_pat (e : SearchEngine) : (setSe e s).pat = s.pat := rfl
@[simp] theorem setSe_dir (e : SearchEngine) : (setSe e s).dir = s.dir := rfl
@[simp] theorem setSe_pane (e : SearchEngine) : (setSe e s).pane = s.pane := rfl
@[simp] theorem setSe_flt (e : SearchEngine) : (setSe e s).flt = s.flt := rfl
@[simp] theorem setSe_orderChoices (e : SearchEngine) : (setSe e s).orderChoices = s.orderChoices := rfl
@[simp] theorem setSe_pending (e : SearchEngine) : (setSe e s).pending = s.pending := rfl

/-! ### setBus -/

@[simp] theorem setBus_port (d : Option Downstream) (u : Option Word) : (setBus d u s).port = s.port := rfl
@[simp] theorem setBus_bus (d : Option Downstream) (u : Option Word) : (setBus d u s).bus = ⟨d, u⟩ := rfl
@[simp] theorem setBus_trk (d : Option Downstream) (u : Option Word) : (setBus d u s).trk = s.trk := rfl
@[simp] theorem setBus_hv (d : Option Downstream) (u : Option Word) : (setBus d u s).hv = s.hv := rfl
@[simp] theorem setBus_se (d : Option Downstream) (u : Option Word) : (setBus d u s).se = s.se := rfl
@[simp] theorem setBus_cu (d : Option Downstream) (u : Option Word) : (setBus d u s).cu = s.cu := rfl
@[simp] theorem setBus_band (d : Option Downstream) (u : Option Word) : (setBus d u s).band = s.band := rfl
@[simp] theorem setBus_comp (d : Option Downstream) (u : Option Word) : (setBus d u s).comp = s.comp := rfl
@[simp] theorem setBus_pat (d : Option Downstream) (u : Option Word) : (setBus d u s).pat = s.pat := rfl
@[simp] theorem setBus_dir (d : Option Downstream) (u : Option Word) : (setBus d u s).dir = s.dir := rfl
@[simp] theorem setBus_pane (d : Option Downstream) (u : Option Word) : (setBus d u s).pane = s.pane := rfl
@[simp] theorem setBus_flt (d : Option Downstream) (u : Option Word) : (setBus d u s).flt = s.flt := rfl
@[simp] theorem setBus_orderChoices (d : Option Downstream) (u : Option Word) :
    (setBus d u s).orderChoices = s.orderChoices := rfl
@[simp] theorem setBus_pending (d : Option Downstream) (u : Option Word) : (setBus d u s).pending = s.pending := rfl

/-! ### popItem -/

@[simp] theorem popItem_port : (popItem s).port = s.port := rfl
@[simp] theorem popItem_bus : (popItem s).bus = s.bus := rfl
@[simp] theorem popItem_trk : (popItem s).trk = s.trk := rfl
@[simp] theorem popItem_hv : (popItem s).hv = { s.hv with queue := s.hv.queue.tail } := rfl
@[simp] theorem popItem_se : (popItem s).se = s.se := rfl
@[simp] theorem popItem_cu : (popItem s).cu = s.cu := rfl
@[simp] theorem popItem_band : (popItem s).band = s.band := rfl
@[simp] theorem popItem_comp : (popItem s).comp = s.comp := rfl
@[simp] theorem popItem_pat : (popItem s).pat = s.pat := rfl
@[simp] theorem popItem_dir : (popItem s).dir = s.dir := rfl
@[simp] theorem popItem_pane : (popItem s).pane = s.pane := rfl
@[simp] theorem popItem_flt : (popItem s).flt = s.flt := rfl
@[simp] theorem popItem_orderChoices : (popItem s).orderChoices = s.orderChoices := rfl
@[simp] theorem popItem_pending : (popItem s).pending = s.pending := rfl

/-! ### oweStart -/

@[simp] theorem oweStart_port : (oweStart s).port = s.port := rfl
@[simp] theorem oweStart_bus : (oweStart s).bus = s.bus := rfl
@[simp] theorem oweStart_trk : (oweStart s).trk = s.trk := rfl
@[simp] theorem oweStart_hv : (oweStart s).hv = s.hv := rfl
@[simp] theorem oweStart_se : (oweStart s).se = { s.se with startOwed := startDue s } := rfl
@[simp] theorem oweStart_cu : (oweStart s).cu = s.cu := rfl
@[simp] theorem oweStart_band : (oweStart s).band = s.band := rfl
@[simp] theorem oweStart_comp : (oweStart s).comp = s.comp := rfl
@[simp] theorem oweStart_pat : (oweStart s).pat = s.pat := rfl
@[simp] theorem oweStart_dir : (oweStart s).dir = s.dir := rfl
@[simp] theorem oweStart_pane : (oweStart s).pane = s.pane := rfl
@[simp] theorem oweStart_flt : (oweStart s).flt = s.flt := rfl
@[simp] theorem oweStart_orderChoices : (oweStart s).orderChoices = s.orderChoices := rfl
@[simp] theorem oweStart_pending : (oweStart s).pending = s.pending := rfl

/-! ### endSearch -/

@[simp] theorem endSearch_port : (endSearch s).port = s.port := rfl
@[simp] theorem endSearch_bus : (endSearch s).bus = s.bus := rfl
@[simp] theorem endSearch_trk : (endSearch s).trk = s.trk := rfl
@[simp] theorem endSearch_hv : (endSearch s).hv = s.hv := rfl
@[simp] theorem endSearch_se : (endSearch s).se = { s.se with search := none } := rfl
@[simp] theorem endSearch_cu : (endSearch s).cu = s.cu := rfl
@[simp] theorem endSearch_band : (endSearch s).band = s.band := rfl
@[simp] theorem endSearch_comp : (endSearch s).comp = s.comp := rfl
@[simp] theorem endSearch_pat : (endSearch s).pat = s.pat := rfl
@[simp] theorem endSearch_dir : (endSearch s).dir = s.dir := rfl
@[simp] theorem endSearch_pane : (endSearch s).pane = s.pane := rfl
@[simp] theorem endSearch_flt : (endSearch s).flt = s.flt := rfl
@[simp] theorem endSearch_orderChoices : (endSearch s).orderChoices = s.orderChoices := rfl
@[simp] theorem endSearch_pending : (endSearch s).pending = s.pending := rfl

/-! ### moveCursor -/

@[simp] theorem moveCursor_port (p : Pt) : (moveCursor p s).port = s.port := rfl
@[simp] theorem moveCursor_bus (p : Pt) : (moveCursor p s).bus = s.bus := rfl
@[simp] theorem moveCursor_trk (p : Pt) : (moveCursor p s).trk = s.trk := rfl
@[simp] theorem moveCursor_hv (p : Pt) : (moveCursor p s).hv = s.hv := rfl
@[simp] theorem moveCursor_se (p : Pt) : (moveCursor p s).se = s.se := rfl
@[simp] theorem moveCursor_cu (p : Pt) :
    (moveCursor p s).cu = { s.cu with pos := clampPt p, edge := clampEdge p } := rfl
@[simp] theorem moveCursor_band (p : Pt) : (moveCursor p s).band = s.band := rfl
@[simp] theorem moveCursor_comp (p : Pt) : (moveCursor p s).comp = s.comp := rfl
@[simp] theorem moveCursor_pat (p : Pt) : (moveCursor p s).pat = s.pat := rfl
@[simp] theorem moveCursor_dir (p : Pt) : (moveCursor p s).dir = s.dir := rfl
@[simp] theorem moveCursor_pane (p : Pt) : (moveCursor p s).pane = s.pane := rfl
@[simp] theorem moveCursor_flt (p : Pt) : (moveCursor p s).flt = s.flt := rfl
@[simp] theorem moveCursor_orderChoices (p : Pt) : (moveCursor p s).orderChoices = s.orderChoices := rfl
@[simp] theorem moveCursor_pending (p : Pt) : (moveCursor p s).pending = s.pending := rfl

/-! ### setPrev -/

@[simp] theorem setPrev_port (b : BitVec 4) : (setPrev b s).port = s.port := rfl
@[simp] theorem setPrev_bus (b : BitVec 4) : (setPrev b s).bus = s.bus := rfl
@[simp] theorem setPrev_trk (b : BitVec 4) : (setPrev b s).trk = s.trk := rfl
@[simp] theorem setPrev_hv (b : BitVec 4) : (setPrev b s).hv = s.hv := rfl
@[simp] theorem setPrev_se (b : BitVec 4) : (setPrev b s).se = s.se := rfl
@[simp] theorem setPrev_cu (b : BitVec 4) : (setPrev b s).cu = { s.cu with prev := b } := rfl
@[simp] theorem setPrev_band (b : BitVec 4) : (setPrev b s).band = s.band := rfl
@[simp] theorem setPrev_comp (b : BitVec 4) : (setPrev b s).comp = s.comp := rfl
@[simp] theorem setPrev_pat (b : BitVec 4) : (setPrev b s).pat = s.pat := rfl
@[simp] theorem setPrev_dir (b : BitVec 4) : (setPrev b s).dir = s.dir := rfl
@[simp] theorem setPrev_pane (b : BitVec 4) : (setPrev b s).pane = s.pane := rfl
@[simp] theorem setPrev_flt (b : BitVec 4) : (setPrev b s).flt = s.flt := rfl
@[simp] theorem setPrev_orderChoices (b : BitVec 4) : (setPrev b s).orderChoices = s.orderChoices := rfl
@[simp] theorem setPrev_pending (b : BitVec 4) : (setPrev b s).pending = s.pending := rfl

/-! ### leaveWindow -/

@[simp] theorem leaveWindow_port : (leaveWindow s).port = s.port := rfl
@[simp] theorem leaveWindow_bus : (leaveWindow s).bus = s.bus := rfl
@[simp] theorem leaveWindow_trk : (leaveWindow s).trk = s.trk := rfl
@[simp] theorem leaveWindow_hv : (leaveWindow s).hv = s.hv := rfl
@[simp] theorem leaveWindow_se : (leaveWindow s).se = s.se := rfl
@[simp] theorem leaveWindow_cu : (leaveWindow s).cu = s.cu := rfl
@[simp] theorem leaveWindow_band : (leaveWindow s).band = s.band := rfl
@[simp] theorem leaveWindow_comp : (leaveWindow s).comp = { s.comp with entered := false } := rfl
@[simp] theorem leaveWindow_pat : (leaveWindow s).pat = s.pat := rfl
@[simp] theorem leaveWindow_dir : (leaveWindow s).dir = s.dir := rfl
@[simp] theorem leaveWindow_pane : (leaveWindow s).pane = s.pane := rfl
@[simp] theorem leaveWindow_flt : (leaveWindow s).flt = s.flt := rfl
@[simp] theorem leaveWindow_orderChoices : (leaveWindow s).orderChoices = s.orderChoices := rfl
@[simp] theorem leaveWindow_pending : (leaveWindow s).pending = s.pending := rfl

/-! ### answerRead -/

@[simp] theorem answerRead_port (w : Word) : (answerRead w s).port = s.port := rfl
@[simp] theorem answerRead_bus (w : Word) : (answerRead w s).bus = ⟨none, some w⟩ := rfl
@[simp] theorem answerRead_trk (w : Word) : (answerRead w s).trk = s.trk := rfl
@[simp] theorem answerRead_hv (w : Word) : (answerRead w s).hv = s.hv := rfl
@[simp] theorem answerRead_se (w : Word) : (answerRead w s).se = s.se := rfl
@[simp] theorem answerRead_cu (w : Word) : (answerRead w s).cu = s.cu := rfl
@[simp] theorem answerRead_band (w : Word) : (answerRead w s).band = s.band := rfl
@[simp] theorem answerRead_comp (w : Word) : (answerRead w s).comp = s.comp := rfl
@[simp] theorem answerRead_pat (w : Word) : (answerRead w s).pat = s.pat := rfl
@[simp] theorem answerRead_dir (w : Word) : (answerRead w s).dir = s.dir := rfl
@[simp] theorem answerRead_pane (w : Word) : (answerRead w s).pane = s.pane := rfl
@[simp] theorem answerRead_flt (w : Word) : (answerRead w s).flt = s.flt := rfl
@[simp] theorem answerRead_orderChoices (w : Word) : (answerRead w s).orderChoices = s.orderChoices := rfl
@[simp] theorem answerRead_pending (w : Word) : (answerRead w s).pending = s.pending := rfl

/-! ### forwardRead -/

@[simp] theorem forwardRead_port (a : Addr) (w : Word) : (forwardRead a w s).port = s.port := rfl
@[simp] theorem forwardRead_bus (a : Addr) (w : Word) : (forwardRead a w s).bus = ⟨some (.read a), some w⟩ := rfl
@[simp] theorem forwardRead_trk (a : Addr) (w : Word) : (forwardRead a w s).trk = s.trk := rfl
@[simp] theorem forwardRead_hv (a : Addr) (w : Word) : (forwardRead a w s).hv = s.hv := rfl
@[simp] theorem forwardRead_se (a : Addr) (w : Word) : (forwardRead a w s).se = s.se := rfl
@[simp] theorem forwardRead_cu (a : Addr) (w : Word) : (forwardRead a w s).cu = s.cu := rfl
@[simp] theorem forwardRead_band (a : Addr) (w : Word) : (forwardRead a w s).band = s.band := rfl
@[simp] theorem forwardRead_comp (a : Addr) (w : Word) : (forwardRead a w s).comp = s.comp := rfl
@[simp] theorem forwardRead_pat (a : Addr) (w : Word) : (forwardRead a w s).pat = s.pat := rfl
@[simp] theorem forwardRead_dir (a : Addr) (w : Word) : (forwardRead a w s).dir = s.dir := rfl
@[simp] theorem forwardRead_pane (a : Addr) (w : Word) : (forwardRead a w s).pane = s.pane := rfl
@[simp] theorem forwardRead_flt (a : Addr) (w : Word) : (forwardRead a w s).flt = s.flt := rfl
@[simp] theorem forwardRead_orderChoices (a : Addr) (w : Word) :
    (forwardRead a w s).orderChoices = s.orderChoices := rfl
@[simp] theorem forwardRead_pending (a : Addr) (w : Word) : (forwardRead a w s).pending = s.pending := rfl

/-! ### reportOutcome -/

@[simp] theorem reportOutcome_port (e : DirEntry) (r : Option Reason) : (reportOutcome e r s).port = s.port := rfl
@[simp] theorem reportOutcome_bus (e : DirEntry) (r : Option Reason) : (reportOutcome e r s).bus = s.bus := rfl
@[simp] theorem reportOutcome_trk (e : DirEntry) (r : Option Reason) : (reportOutcome e r s).trk = s.trk := rfl
@[simp] theorem reportOutcome_hv (e : DirEntry) (r : Option Reason) : (reportOutcome e r s).hv = s.hv := rfl
@[simp] theorem reportOutcome_se (e : DirEntry) (r : Option Reason) : (reportOutcome e r s).se = s.se := rfl
@[simp] theorem reportOutcome_cu (e : DirEntry) (r : Option Reason) : (reportOutcome e r s).cu = s.cu := rfl
@[simp] theorem reportOutcome_band (e : DirEntry) (r : Option Reason) : (reportOutcome e r s).band = s.band := rfl
@[simp] theorem reportOutcome_comp (e : DirEntry) (r : Option Reason) : (reportOutcome e r s).comp = s.comp := rfl
@[simp] theorem reportOutcome_pat (e : DirEntry) (r : Option Reason) : (reportOutcome e r s).pat = s.pat := rfl
@[simp] theorem reportOutcome_dir (e : DirEntry) (r : Option Reason) :
    (reportOutcome e r s).dir = { s.dir with progress := ⟨s.dir.progress.count + 1, e.slot, e.kind, e.tag, r⟩ } := rfl
@[simp] theorem reportOutcome_pane (e : DirEntry) (r : Option Reason) : (reportOutcome e r s).pane = s.pane := rfl
@[simp] theorem reportOutcome_flt (e : DirEntry) (r : Option Reason) : (reportOutcome e r s).flt = s.flt := rfl
@[simp] theorem reportOutcome_orderChoices (e : DirEntry) (r : Option Reason) :
    (reportOutcome e r s).orderChoices = s.orderChoices := rfl
@[simp] theorem reportOutcome_pending (e : DirEntry) (r : Option Reason) :
    (reportOutcome e r s).pending = s.pending := rfl

/-! ### withdraw -/

@[simp] theorem withdraw_port (a : Addr) : (withdraw a s).port = s.port := rfl
@[simp] theorem withdraw_bus (a : Addr) : (withdraw a s).bus = s.bus := rfl
@[simp] theorem withdraw_trk (a : Addr) : (withdraw a s).trk = s.trk := rfl
@[simp] theorem withdraw_hv (a : Addr) :
    (withdraw a s).hv = { s.hv with queue := s.hv.queue.filter (QItem.survives a), banks := s.hv.banks.map (Bank.withdraw a) } := rfl
@[simp] theorem withdraw_se (a : Addr) : (withdraw a s).se = s.se := rfl
@[simp] theorem withdraw_cu (a : Addr) : (withdraw a s).cu = s.cu := rfl
@[simp] theorem withdraw_band (a : Addr) : (withdraw a s).band = s.band := rfl
@[simp] theorem withdraw_comp (a : Addr) : (withdraw a s).comp = s.comp := rfl
@[simp] theorem withdraw_pat (a : Addr) : (withdraw a s).pat = s.pat := rfl
@[simp] theorem withdraw_dir (a : Addr) : (withdraw a s).dir = s.dir := rfl
@[simp] theorem withdraw_pane (a : Addr) : (withdraw a s).pane = s.pane := rfl
@[simp] theorem withdraw_flt (a : Addr) : (withdraw a s).flt = s.flt := rfl
@[simp] theorem withdraw_orderChoices (a : Addr) : (withdraw a s).orderChoices = s.orderChoices := rfl
@[simp] theorem withdraw_pending (a : Addr) : (withdraw a s).pending = s.pending := rfl

end Sys2Proof.Machine
end

