-- ==== Sys2Proof/Laws/Frames.lean ====
section
/-! SUPPORT. What the shared operations leave unchanged: one lemma per operation and block it does not touch. -/

namespace Sys2Proof.Machine

variable (s : State)

@[simp] theorem trigger_frame :
    (trigger s).port = s.port ∧ (trigger s).bus = s.bus ∧ (trigger s).trk = s.trk ∧ (trigger s).hv = s.hv ∧
    (trigger s).se = s.se ∧ (trigger s).cu = s.cu ∧ (trigger s).band = s.band ∧ (trigger s).pat = s.pat ∧
    (trigger s).dir = s.dir ∧ (trigger s).pane = s.pane ∧ (trigger s).flt = s.flt ∧
    (trigger s).orderChoices = s.orderChoices ∧ (trigger s).pending = s.pending := by
  unfold trigger; dsimp only; (repeat' split) <;> simp

@[simp] theorem fileMotion_frame :
    (fileMotion s).port = s.port ∧ (fileMotion s).bus = s.bus ∧ (fileMotion s).trk = s.trk ∧
    (fileMotion s).hv = s.hv ∧ (fileMotion s).cu = s.cu ∧ (fileMotion s).band = s.band ∧
    (fileMotion s).comp = s.comp ∧ (fileMotion s).pat = s.pat ∧ (fileMotion s).dir = s.dir ∧
    (fileMotion s).pane = s.pane ∧ (fileMotion s).flt = s.flt ∧ (fileMotion s).orderChoices = s.orderChoices ∧
    (fileMotion s).pending = s.pending := by
  unfold fileMotion; dsimp only; (repeat' split) <;> simp

@[simp] theorem filePress_frame (p : Press) :
    (filePress p s).port = s.port ∧ (filePress p s).bus = s.bus ∧ (filePress p s).trk = s.trk ∧
    (filePress p s).hv = s.hv ∧ (filePress p s).cu = s.cu ∧ (filePress p s).band = s.band ∧
    (filePress p s).comp = s.comp ∧ (filePress p s).pat = s.pat ∧ (filePress p s).dir = s.dir ∧
    (filePress p s).pane = s.pane ∧ (filePress p s).orderChoices = s.orderChoices ∧
    (filePress p s).pending = s.pending := by
  unfold filePress; dsimp only; (repeat' split) <;> simp

@[simp] theorem searchProximity_frame (b : Bool) :
    (searchProximity b s).port = s.port ∧ (searchProximity b s).bus = s.bus ∧ (searchProximity b s).trk = s.trk ∧
    (searchProximity b s).hv = s.hv ∧ (searchProximity b s).cu = s.cu ∧ (searchProximity b s).band = s.band ∧
    (searchProximity b s).comp = s.comp ∧ (searchProximity b s).pat = s.pat ∧ (searchProximity b s).dir = s.dir ∧
    (searchProximity b s).pane = s.pane ∧ (searchProximity b s).flt = s.flt ∧
    (searchProximity b s).orderChoices = s.orderChoices ∧ (searchProximity b s).pending = s.pending := by
  unfold searchProximity; dsimp only; (repeat' split) <;> simp

@[simp] theorem setProximity_frame (b : Bool) :
    (setProximity b s).port = s.port ∧ (setProximity b s).bus = s.bus ∧ (setProximity b s).trk = s.trk ∧
    (setProximity b s).hv = s.hv ∧ (setProximity b s).band = s.band ∧ (setProximity b s).pat = s.pat ∧
    (setProximity b s).dir = s.dir ∧ (setProximity b s).flt = s.flt ∧
    (setProximity b s).orderChoices = s.orderChoices ∧ (setProximity b s).pending = s.pending := by
  unfold setProximity; dsimp only; (repeat' split) <;> simp

@[simp] theorem startSearch_frame :
    (startSearch s).port = s.port ∧ (startSearch s).bus = s.bus ∧ (startSearch s).trk = s.trk ∧
    (startSearch s).hv = s.hv ∧ (startSearch s).cu = s.cu ∧ (startSearch s).band = s.band ∧
    (startSearch s).comp = s.comp ∧ (startSearch s).pat = s.pat ∧ (startSearch s).dir = s.dir ∧
    (startSearch s).pane = s.pane ∧ (startSearch s).flt = s.flt ∧ (startSearch s).orderChoices = s.orderChoices ∧
    (startSearch s).pending = s.pending := by
  unfold startSearch; dsimp only; (repeat' split) <;> simp

@[simp] theorem startOwedSearch_frame :
    (startOwedSearch s).port = s.port ∧ (startOwedSearch s).bus = s.bus ∧ (startOwedSearch s).trk = s.trk ∧
    (startOwedSearch s).hv = s.hv ∧ (startOwedSearch s).cu = s.cu ∧ (startOwedSearch s).band = s.band ∧
    (startOwedSearch s).comp = s.comp ∧ (startOwedSearch s).pat = s.pat ∧ (startOwedSearch s).dir = s.dir ∧
    (startOwedSearch s).pane = s.pane ∧ (startOwedSearch s).flt = s.flt ∧
    (startOwedSearch s).orderChoices = s.orderChoices ∧ (startOwedSearch s).pending = s.pending := by
  unfold startOwedSearch; (repeat' split) <;> simp

@[simp] theorem promote_frame :
    (promote s).port = s.port ∧ (promote s).bus = s.bus ∧ (promote s).trk = s.trk ∧ (promote s).cu = s.cu ∧
    (promote s).band = s.band ∧ (promote s).comp = s.comp ∧ (promote s).pat = s.pat ∧ (promote s).dir = s.dir ∧
    (promote s).flt = s.flt ∧ (promote s).orderChoices = s.orderChoices ∧ (promote s).pending = s.pending := by
  unfold promote; dsimp only; (repeat' split) <;> simp

@[simp] theorem recordFault_frame (f : Raised) :
    (recordFault f s).port = s.port ∧ (recordFault f s).bus = s.bus ∧ (recordFault f s).trk = s.trk ∧
    (recordFault f s).hv = s.hv ∧ (recordFault f s).se = s.se ∧ (recordFault f s).cu = s.cu ∧
    (recordFault f s).band = s.band ∧ (recordFault f s).comp = s.comp ∧ (recordFault f s).pat = s.pat ∧
    (recordFault f s).dir = s.dir ∧ (recordFault f s).orderChoices = s.orderChoices ∧
    (recordFault f s).pending = s.pending := by
  unfold recordFault; dsimp only; simp

@[simp] theorem raiseOverrun_frame (b : Bool) (n : BitVec 32) :
    (raiseOverrun b n s).port = s.port ∧ (raiseOverrun b n s).bus = s.bus ∧ (raiseOverrun b n s).trk = s.trk ∧
    (raiseOverrun b n s).hv = s.hv ∧ (raiseOverrun b n s).se = s.se ∧ (raiseOverrun b n s).cu = s.cu ∧
    (raiseOverrun b n s).band = s.band ∧ (raiseOverrun b n s).comp = s.comp ∧ (raiseOverrun b n s).pat = s.pat ∧
    (raiseOverrun b n s).dir = s.dir ∧ (raiseOverrun b n s).pane = s.pane ∧
    (raiseOverrun b n s).orderChoices = s.orderChoices ∧ (raiseOverrun b n s).pending = s.pending := by
  unfold raiseOverrun; (repeat' split) <;> simp

@[simp] theorem recordDrop_frame (l m : List QItem) :
    (recordDrop l m s).port = s.port ∧ (recordDrop l m s).bus = s.bus ∧ (recordDrop l m s).trk = s.trk ∧
    (recordDrop l m s).se = s.se ∧ (recordDrop l m s).cu = s.cu ∧ (recordDrop l m s).band = s.band ∧
    (recordDrop l m s).comp = s.comp ∧ (recordDrop l m s).pat = s.pat ∧ (recordDrop l m s).dir = s.dir ∧
    (recordDrop l m s).pane = s.pane ∧ (recordDrop l m s).orderChoices = s.orderChoices ∧
    (recordDrop l m s).pending = s.pending := by
  unfold recordDrop; dsimp only; (repeat' split) <;> simp

@[simp] theorem queueItem_frame (i : QItem) :
    (queueItem i s).port = s.port ∧ (queueItem i s).bus = s.bus ∧ (queueItem i s).trk = s.trk ∧
    (queueItem i s).se = s.se ∧ (queueItem i s).cu = s.cu ∧ (queueItem i s).band = s.band ∧
    (queueItem i s).comp = s.comp ∧ (queueItem i s).pat = s.pat ∧ (queueItem i s).dir = s.dir ∧
    (queueItem i s).pane = s.pane ∧ (queueItem i s).orderChoices = s.orderChoices ∧
    (queueItem i s).pending = s.pending := by
  unfold queueItem; dsimp only; (repeat' split) <;> simp

@[simp] theorem queueMarker_frame (i : QItem) :
    (queueMarker i s).port = s.port ∧ (queueMarker i s).bus = s.bus ∧ (queueMarker i s).trk = s.trk ∧
    (queueMarker i s).se = s.se ∧ (queueMarker i s).cu = s.cu ∧ (queueMarker i s).band = s.band ∧
    (queueMarker i s).comp = s.comp ∧ (queueMarker i s).pat = s.pat ∧ (queueMarker i s).dir = s.dir ∧
    (queueMarker i s).pane = s.pane ∧ (queueMarker i s).orderChoices = s.orderChoices ∧
    (queueMarker i s).pending = s.pending := by
  unfold queueMarker; dsimp only; (repeat' split) <;> simp

@[simp] theorem releaseFilling_frame :
    (releaseFilling s).port = s.port ∧ (releaseFilling s).bus = s.bus ∧ (releaseFilling s).trk = s.trk ∧
    (releaseFilling s).se = s.se ∧ (releaseFilling s).cu = s.cu ∧ (releaseFilling s).band = s.band ∧
    (releaseFilling s).comp = s.comp ∧ (releaseFilling s).pat = s.pat ∧ (releaseFilling s).dir = s.dir ∧
    (releaseFilling s).pane = s.pane ∧ (releaseFilling s).flt = s.flt ∧
    (releaseFilling s).orderChoices = s.orderChoices ∧ (releaseFilling s).pending = s.pending := by
  unfold releaseFilling; (repeat' split) <;> simp

@[simp] theorem takeStart_frame (f : BitVec 32) (c : Pt) (d : Nat) (i : Bool) :
    (takeStart f c d i s).port = s.port ∧ (takeStart f c d i s).bus = s.bus ∧ (takeStart f c d i s).trk = s.trk ∧
    (takeStart f c d i s).se = s.se ∧ (takeStart f c d i s).cu = s.cu ∧ (takeStart f c d i s).band = s.band ∧
    (takeStart f c d i s).comp = s.comp ∧ (takeStart f c d i s).pat = s.pat ∧ (takeStart f c d i s).dir = s.dir ∧
    (takeStart f c d i s).pane = s.pane ∧ (takeStart f c d i s).flt = s.flt ∧
    (takeStart f c d i s).orderChoices = s.orderChoices ∧ (takeStart f c d i s).pending = s.pending := by
  unfold takeStart; dsimp only; (repeat' split) <;> simp

@[simp] theorem takeEnd_frame :
    (takeEnd s).port = s.port ∧ (takeEnd s).bus = s.bus ∧ (takeEnd s).trk = s.trk ∧ (takeEnd s).cu = s.cu ∧
    (takeEnd s).band = s.band ∧ (takeEnd s).comp = s.comp ∧ (takeEnd s).pat = s.pat ∧ (takeEnd s).dir = s.dir ∧
    (takeEnd s).flt = s.flt ∧ (takeEnd s).orderChoices = s.orderChoices ∧ (takeEnd s).pending = s.pending := by
  unfold takeEnd; dsimp only; (repeat' split) <;> simp

@[simp] theorem takeDiscard_frame :
    (takeDiscard s).port = s.port ∧ (takeDiscard s).bus = s.bus ∧ (takeDiscard s).trk = s.trk ∧
    (takeDiscard s).se = s.se ∧ (takeDiscard s).cu = s.cu ∧ (takeDiscard s).band = s.band ∧
    (takeDiscard s).comp = s.comp ∧ (takeDiscard s).pat = s.pat ∧ (takeDiscard s).dir = s.dir ∧
    (takeDiscard s).pane = s.pane ∧ (takeDiscard s).flt = s.flt ∧ (takeDiscard s).orderChoices = s.orderChoices ∧
    (takeDiscard s).pending = s.pending := by
  unfold takeDiscard; simp

@[simp] theorem offerEntry_frame (e : Entry) :
    (offerEntry e s).port = s.port ∧ (offerEntry e s).bus = s.bus ∧ (offerEntry e s).trk = s.trk ∧
    (offerEntry e s).se = s.se ∧ (offerEntry e s).cu = s.cu ∧ (offerEntry e s).band = s.band ∧
    (offerEntry e s).comp = s.comp ∧ (offerEntry e s).pat = s.pat ∧ (offerEntry e s).dir = s.dir ∧
    (offerEntry e s).pane = s.pane ∧ (offerEntry e s).orderChoices = s.orderChoices ∧
    (offerEntry e s).pending = s.pending := by
  unfold offerEntry; dsimp only; (repeat' split) <;> simp

@[simp] theorem offerEntries_frame (l : List Entry) :
    (offerEntries l s).port = s.port ∧ (offerEntries l s).bus = s.bus ∧ (offerEntries l s).trk = s.trk ∧
    (offerEntries l s).se = s.se ∧ (offerEntries l s).cu = s.cu ∧ (offerEntries l s).band = s.band ∧
    (offerEntries l s).comp = s.comp ∧ (offerEntries l s).pat = s.pat ∧ (offerEntries l s).dir = s.dir ∧
    (offerEntries l s).pane = s.pane ∧ (offerEntries l s).orderChoices = s.orderChoices ∧
    (offerEntries l s).pending = s.pending := by
  unfold offerEntries
  induction l generalizing s with
  | nil => simp
  | cons e l ih => simp [List.foldl_cons, ih]

@[simp] theorem patternStep_frame :
    (patternStep s).port = s.port ∧ (patternStep s).bus = s.bus ∧ (patternStep s).trk = s.trk ∧
    (patternStep s).hv = s.hv ∧ (patternStep s).se = s.se ∧ (patternStep s).cu = s.cu ∧
    (patternStep s).band = s.band ∧ (patternStep s).dir = s.dir ∧ (patternStep s).pane = s.pane ∧
    (patternStep s).flt = s.flt ∧ (patternStep s).orderChoices = s.orderChoices ∧
    (patternStep s).pending = s.pending := by
  unfold patternStep; dsimp only; (repeat' split) <;> simp

@[simp] theorem discardOpenFrame_frame :
    (discardOpenFrame s).port = s.port ∧ (discardOpenFrame s).bus = s.bus ∧ (discardOpenFrame s).trk = s.trk ∧
    (discardOpenFrame s).se = s.se ∧ (discardOpenFrame s).cu = s.cu ∧ (discardOpenFrame s).band = s.band ∧
    (discardOpenFrame s).comp = s.comp ∧ (discardOpenFrame s).pat = s.pat ∧ (discardOpenFrame s).dir = s.dir ∧
    (discardOpenFrame s).pane = s.pane ∧ (discardOpenFrame s).orderChoices = s.orderChoices ∧
    (discardOpenFrame s).pending = s.pending := by
  unfold discardOpenFrame; (repeat' split) <;> simp

@[simp] theorem goLost_frame :
    (goLost s).port = s.port ∧ (goLost s).bus = s.bus ∧ (goLost s).se = s.se ∧ (goLost s).cu = s.cu ∧
    (goLost s).band = s.band ∧ (goLost s).comp = s.comp ∧ (goLost s).pat = s.pat ∧ (goLost s).dir = s.dir ∧
    (goLost s).pane = s.pane ∧ (goLost s).orderChoices = s.orderChoices ∧ (goLost s).pending = s.pending := by
  unfold goLost; simp

@[simp] theorem loseTrack_frame (c : FaultCode) (a : Addr) :
    (loseTrack c a s).port = s.port ∧ (loseTrack c a s).bus = s.bus ∧ (loseTrack c a s).se = s.se ∧
    (loseTrack c a s).cu = s.cu ∧ (loseTrack c a s).band = s.band ∧ (loseTrack c a s).comp = s.comp ∧
    (loseTrack c a s).pat = s.pat ∧ (loseTrack c a s).dir = s.dir ∧ (loseTrack c a s).pane = s.pane ∧
    (loseTrack c a s).orderChoices = s.orderChoices ∧ (loseTrack c a s).pending = s.pending := by
  unfold loseTrack; simp

@[simp] theorem applyMove_frame (a : Addr) (p : Pt) :
    (applyMove a p s).port = s.port ∧ (applyMove a p s).bus = s.bus ∧ (applyMove a p s).hv = s.hv ∧
    (applyMove a p s).se = s.se ∧ (applyMove a p s).cu = s.cu ∧ (applyMove a p s).band = s.band ∧
    (applyMove a p s).comp = s.comp ∧ (applyMove a p s).pat = s.pat ∧ (applyMove a p s).dir = s.dir ∧
    (applyMove a p s).pane = s.pane ∧ (applyMove a p s).flt = s.flt ∧
    (applyMove a p s).orderChoices = s.orderChoices ∧ (applyMove a p s).pending = s.pending := by
  unfold applyMove; dsimp only; simp

@[simp] theorem applyDraw_frame (a : Addr) (p : Pt) :
    (applyDraw a p s).port = s.port ∧ (applyDraw a p s).bus = s.bus ∧ (applyDraw a p s).se = s.se ∧
    (applyDraw a p s).cu = s.cu ∧ (applyDraw a p s).band = s.band ∧ (applyDraw a p s).comp = s.comp ∧
    (applyDraw a p s).pat = s.pat ∧ (applyDraw a p s).dir = s.dir ∧ (applyDraw a p s).pane = s.pane ∧
    (applyDraw a p s).orderChoices = s.orderChoices ∧ (applyDraw a p s).pending = s.pending := by
  unfold applyDraw; dsimp only; (repeat' split) <;> simp

@[simp] theorem applyCircle_frame (a h : Addr) (c : Pt) (i : Bool) (w : Word) :
    (applyCircle a h c i w s).port = s.port ∧ (applyCircle a h c i w s).bus = s.bus ∧
    (applyCircle a h c i w s).se = s.se ∧ (applyCircle a h c i w s).cu = s.cu ∧
    (applyCircle a h c i w s).band = s.band ∧ (applyCircle a h c i w s).comp = s.comp ∧
    (applyCircle a h c i w s).pat = s.pat ∧ (applyCircle a h c i w s).dir = s.dir ∧
    (applyCircle a h c i w s).pane = s.pane ∧ (applyCircle a h c i w s).orderChoices = s.orderChoices ∧
    (applyCircle a h c i w s).pending = s.pending := by
  unfold applyCircle; dsimp only; (repeat' split) <;> simp

@[simp] theorem applyCall_frame (h t : Addr) (w : Word) :
    (applyCall h t w s).port = s.port ∧ (applyCall h t w s).bus = s.bus ∧ (applyCall h t w s).hv = s.hv ∧
    (applyCall h t w s).se = s.se ∧ (applyCall h t w s).cu = s.cu ∧ (applyCall h t w s).band = s.band ∧
    (applyCall h t w s).comp = s.comp ∧ (applyCall h t w s).pat = s.pat ∧ (applyCall h t w s).dir = s.dir ∧
    (applyCall h t w s).pane = s.pane ∧ (applyCall h t w s).flt = s.flt ∧
    (applyCall h t w s).orderChoices = s.orderChoices ∧ (applyCall h t w s).pending = s.pending := by
  unfold applyCall; dsimp only; simp

@[simp] theorem applyReturn_frame (a : Addr) :
    (applyReturn a s).port = s.port ∧ (applyReturn a s).bus = s.bus ∧ (applyReturn a s).se = s.se ∧
    (applyReturn a s).cu = s.cu ∧ (applyReturn a s).band = s.band ∧ (applyReturn a s).comp = s.comp ∧
    (applyReturn a s).pat = s.pat ∧ (applyReturn a s).dir = s.dir ∧ (applyReturn a s).pane = s.pane ∧
    (applyReturn a s).orderChoices = s.orderChoices ∧ (applyReturn a s).pending = s.pending := by
  unfold applyReturn; dsimp only; (repeat' split) <;> simp

@[simp] theorem applyFrame_frame (a : Addr) :
    (applyFrame a s).port = s.port ∧ (applyFrame a s).bus = s.bus ∧ (applyFrame a s).se = s.se ∧
    (applyFrame a s).cu = s.cu ∧ (applyFrame a s).band = s.band ∧ (applyFrame a s).comp = s.comp ∧
    (applyFrame a s).pat = s.pat ∧ (applyFrame a s).dir = s.dir ∧ (applyFrame a s).pane = s.pane ∧
    (applyFrame a s).orderChoices = s.orderChoices ∧ (applyFrame a s).pending = s.pending := by
  unfold applyFrame; dsimp only; simp

@[simp] theorem takeHead_frame (l a : Addr) (w : Word) :
    (takeHead l a w s).port = s.port ∧ (takeHead l a w s).bus = s.bus ∧ (takeHead l a w s).se = s.se ∧
    (takeHead l a w s).cu = s.cu ∧ (takeHead l a w s).band = s.band ∧ (takeHead l a w s).comp = s.comp ∧
    (takeHead l a w s).pat = s.pat ∧ (takeHead l a w s).dir = s.dir ∧ (takeHead l a w s).pane = s.pane ∧
    (takeHead l a w s).orderChoices = s.orderChoices ∧ (takeHead l a w s).pending = s.pending := by
  unfold takeHead; dsimp only; (repeat' split) <;> simp

@[simp] theorem takeWord_frame (l a : Addr) (w : Word) :
    (takeWord l a w s).port = s.port ∧ (takeWord l a w s).bus = s.bus ∧ (takeWord l a w s).se = s.se ∧
    (takeWord l a w s).cu = s.cu ∧ (takeWord l a w s).band = s.band ∧ (takeWord l a w s).comp = s.comp ∧
    (takeWord l a w s).pat = s.pat ∧ (takeWord l a w s).dir = s.dir ∧ (takeWord l a w s).pane = s.pane ∧
    (takeWord l a w s).orderChoices = s.orderChoices ∧ (takeWord l a w s).pending = s.pending := by
  unfold takeWord; dsimp only; (repeat' split) <;> simp

@[simp] theorem markInWindow_frame (a : Addr) :
    (markInWindow a s).port = s.port ∧ (markInWindow a s).bus = s.bus ∧ (markInWindow a s).hv = s.hv ∧
    (markInWindow a s).se = s.se ∧ (markInWindow a s).cu = s.cu ∧ (markInWindow a s).band = s.band ∧
    (markInWindow a s).comp = s.comp ∧ (markInWindow a s).pat = s.pat ∧ (markInWindow a s).dir = s.dir ∧
    (markInWindow a s).pane = s.pane ∧ (markInWindow a s).flt = s.flt ∧
    (markInWindow a s).orderChoices = s.orderChoices ∧ (markInWindow a s).pending = s.pending := by
  unfold markInWindow; dsimp only; simp

@[simp] theorem frameStart_frame (l : Addr) (w : Word) :
    (frameStart l w s).port = s.port ∧ (frameStart l w s).bus = s.bus ∧ (frameStart l w s).se = s.se ∧
    (frameStart l w s).cu = s.cu ∧ (frameStart l w s).band = s.band ∧ (frameStart l w s).dir = s.dir ∧
    (frameStart l w s).pane = s.pane ∧ (frameStart l w s).orderChoices = s.orderChoices ∧
    (frameStart l w s).pending = s.pending := by
  unfold frameStart; dsimp only; simp

@[simp] theorem abortFrame_frame :
    (abortFrame s).port = s.port ∧ (abortFrame s).bus = s.bus ∧ (abortFrame s).trk = s.trk ∧
    (abortFrame s).se = s.se ∧ (abortFrame s).cu = s.cu ∧ (abortFrame s).band = s.band ∧
    (abortFrame s).comp = s.comp ∧ (abortFrame s).pat = s.pat ∧ (abortFrame s).dir = s.dir ∧
    (abortFrame s).pane = s.pane ∧ (abortFrame s).orderChoices = s.orderChoices ∧
    (abortFrame s).pending = s.pending := by
  unfold abortFrame; (repeat' split) <;> simp

@[simp] theorem trackRead_frame (l a : Addr) (w : Word) :
    (trackRead l a w s).port = s.port ∧ (trackRead l a w s).bus = s.bus ∧ (trackRead l a w s).se = s.se ∧
    (trackRead l a w s).cu = s.cu ∧ (trackRead l a w s).band = s.band ∧ (trackRead l a w s).dir = s.dir ∧
    (trackRead l a w s).pane = s.pane ∧ (trackRead l a w s).orderChoices = s.orderChoices ∧
    (trackRead l a w s).pending = s.pending := by
  unfold trackRead; (repeat' split) <;> simp

@[simp] theorem copyToTracker_frame (a : Addr) :
    (copyToTracker a s).port = s.port ∧ (copyToTracker a s).bus = s.bus ∧ (copyToTracker a s).se = s.se ∧
    (copyToTracker a s).cu = s.cu ∧ (copyToTracker a s).band = s.band ∧ (copyToTracker a s).dir = s.dir ∧
    (copyToTracker a s).pane = s.pane ∧ (copyToTracker a s).orderChoices = s.orderChoices ∧
    (copyToTracker a s).pending = s.pending := by
  unfold copyToTracker; (repeat' split) <;> simp

@[simp] theorem latchWindow_frame :
    (latchWindow s).port = s.port ∧ (latchWindow s).bus = s.bus ∧ (latchWindow s).trk = s.trk ∧
    (latchWindow s).hv = s.hv ∧ (latchWindow s).se = s.se ∧ (latchWindow s).cu = s.cu ∧
    (latchWindow s).band = s.band ∧ (latchWindow s).pat = s.pat ∧ (latchWindow s).dir = s.dir ∧
    (latchWindow s).pane = s.pane ∧ (latchWindow s).flt = s.flt ∧ (latchWindow s).orderChoices = s.orderChoices ∧
    (latchWindow s).pending = s.pending := by
  unfold latchWindow; dsimp only; simp

@[simp] theorem strokeWindow_frame (k : Nat) :
    ((strokeWindow k s).1).port = s.port ∧ ((strokeWindow k s).1).bus = s.bus ∧ ((strokeWindow k s).1).trk = s.trk ∧
    ((strokeWindow k s).1).hv = s.hv ∧ ((strokeWindow k s).1).se = s.se ∧ ((strokeWindow k s).1).cu = s.cu ∧
    ((strokeWindow k s).1).band = s.band ∧ ((strokeWindow k s).1).pat = s.pat ∧ ((strokeWindow k s).1).dir = s.dir ∧
    ((strokeWindow k s).1).pane = s.pane ∧ ((strokeWindow k s).1).orderChoices = s.orderChoices ∧
    ((strokeWindow k s).1).pending = s.pending := by
  unfold strokeWindow; dsimp only; (repeat' split) <;> simp

@[simp] theorem strokeAnswer_frame (a : Addr) (m : Word) :
    (strokeAnswer a m s).port = s.port ∧ (strokeAnswer a m s).trk = s.trk ∧ (strokeAnswer a m s).hv = s.hv ∧
    (strokeAnswer a m s).se = s.se ∧ (strokeAnswer a m s).cu = s.cu ∧ (strokeAnswer a m s).band = s.band ∧
    (strokeAnswer a m s).pat = s.pat ∧ (strokeAnswer a m s).dir = s.dir ∧ (strokeAnswer a m s).pane = s.pane ∧
    (strokeAnswer a m s).orderChoices = s.orderChoices ∧ (strokeAnswer a m s).pending = s.pending := by
  unfold strokeAnswer; (repeat' split) <;> simp

@[simp] theorem chooseFreeze_frame (a : Addr) :
    (chooseFreeze a s).port = s.port ∧ (chooseFreeze a s).bus = s.bus ∧ (chooseFreeze a s).trk = s.trk ∧
    (chooseFreeze a s).hv = s.hv ∧ (chooseFreeze a s).se = s.se ∧ (chooseFreeze a s).cu = s.cu ∧
    (chooseFreeze a s).band = s.band ∧ (chooseFreeze a s).comp = s.comp ∧ (chooseFreeze a s).dir = s.dir ∧
    (chooseFreeze a s).pane = s.pane ∧ (chooseFreeze a s).flt = s.flt ∧ (chooseFreeze a s).pending = s.pending := by
  unfold chooseFreeze; dsimp only; (repeat' split) <;> simp

@[simp] theorem matchWatch0_frame (a : Addr) :
    (matchWatch0 a s).port = s.port ∧ (matchWatch0 a s).bus = s.bus ∧ (matchWatch0 a s).trk = s.trk ∧
    (matchWatch0 a s).hv = s.hv ∧ (matchWatch0 a s).se = s.se ∧ (matchWatch0 a s).cu = s.cu ∧
    (matchWatch0 a s).band = s.band ∧ (matchWatch0 a s).comp = s.comp ∧ (matchWatch0 a s).pat = s.pat ∧
    (matchWatch0 a s).dir = s.dir ∧ (matchWatch0 a s).orderChoices = s.orderChoices ∧
    (matchWatch0 a s).pending = s.pending := by
  unfold matchWatch0; dsimp only; (repeat' split) <;> simp

@[simp] theorem matchWatch1_frame (a : Addr) :
    (matchWatch1 a s).port = s.port ∧ (matchWatch1 a s).bus = s.bus ∧ (matchWatch1 a s).trk = s.trk ∧
    (matchWatch1 a s).hv = s.hv ∧ (matchWatch1 a s).se = s.se ∧ (matchWatch1 a s).cu = s.cu ∧
    (matchWatch1 a s).band = s.band ∧ (matchWatch1 a s).comp = s.comp ∧ (matchWatch1 a s).pat = s.pat ∧
    (matchWatch1 a s).dir = s.dir ∧ (matchWatch1 a s).orderChoices = s.orderChoices ∧
    (matchWatch1 a s).pending = s.pending := by
  unfold matchWatch1; dsimp only; (repeat' split) <;> simp

@[simp] theorem matchWatches_frame (a : Addr) :
    (matchWatches a s).port = s.port ∧ (matchWatches a s).bus = s.bus ∧ (matchWatches a s).trk = s.trk ∧
    (matchWatches a s).hv = s.hv ∧ (matchWatches a s).se = s.se ∧ (matchWatches a s).cu = s.cu ∧
    (matchWatches a s).band = s.band ∧ (matchWatches a s).comp = s.comp ∧ (matchWatches a s).dir = s.dir ∧
    (matchWatches a s).orderChoices = s.orderChoices ∧ (matchWatches a s).pending = s.pending := by
  unfold matchWatches; dsimp only; (repeat' split) <;> simp

@[simp] theorem ringCheck_frame (n i : Nat) :
    (ringCheck n i s).port = s.port ∧ (ringCheck n i s).bus = s.bus ∧ (ringCheck n i s).trk = s.trk ∧
    (ringCheck n i s).hv = s.hv ∧ (ringCheck n i s).se = s.se ∧ (ringCheck n i s).band = s.band ∧
    (ringCheck n i s).comp = s.comp ∧ (ringCheck n i s).pat = s.pat ∧ (ringCheck n i s).dir = s.dir ∧
    (ringCheck n i s).pane = s.pane ∧ (ringCheck n i s).orderChoices = s.orderChoices ∧
    (ringCheck n i s).pending = s.pending := by
  unfold ringCheck; dsimp only; (repeat' split) <;> simp

@[simp] theorem fileSample_frame (p : Pt) (m : BitVec 4) :
    (fileSample p m s).port = s.port ∧ (fileSample p m s).bus = s.bus ∧ (fileSample p m s).trk = s.trk ∧
    (fileSample p m s).hv = s.hv ∧ (fileSample p m s).cu = s.cu ∧ (fileSample p m s).band = s.band ∧
    (fileSample p m s).pat = s.pat ∧ (fileSample p m s).dir = s.dir ∧ (fileSample p m s).pane = s.pane ∧
    (fileSample p m s).orderChoices = s.orderChoices ∧ (fileSample p m s).pending = s.pending := by
  unfold fileSample; dsimp only; (repeat' split) <;> simp

@[simp] theorem finishSample_frame (p : Pt) (b : BitVec 4) :
    (finishSample p b s).port = s.port ∧ (finishSample p b s).bus = s.bus ∧ (finishSample p b s).trk = s.trk ∧
    (finishSample p b s).hv = s.hv ∧ (finishSample p b s).band = s.band ∧ (finishSample p b s).pat = s.pat ∧
    (finishSample p b s).dir = s.dir ∧ (finishSample p b s).pane = s.pane ∧
    (finishSample p b s).orderChoices = s.orderChoices ∧ (finishSample p b s).pending = s.pending := by
  unfold finishSample; dsimp only; simp

@[simp] theorem tabletIn_frame (w : Word) :
    (tabletIn w s).port = s.port ∧ (tabletIn w s).bus = s.bus ∧ (tabletIn w s).trk = s.trk ∧
    (tabletIn w s).hv = s.hv ∧ (tabletIn w s).band = s.band ∧ (tabletIn w s).pat = s.pat ∧
    (tabletIn w s).dir = s.dir ∧ (tabletIn w s).flt = s.flt ∧ (tabletIn w s).orderChoices = s.orderChoices ∧
    (tabletIn w s).pending = s.pending := by
  unfold tabletIn; dsimp only; simp

@[simp] theorem tabletOut_frame :
    (tabletOut s).port = s.port ∧ (tabletOut s).bus = s.bus ∧ (tabletOut s).trk = s.trk ∧ (tabletOut s).hv = s.hv ∧
    (tabletOut s).band = s.band ∧ (tabletOut s).pat = s.pat ∧ (tabletOut s).dir = s.dir ∧ (tabletOut s).flt = s.flt ∧
    (tabletOut s).orderChoices = s.orderChoices ∧ (tabletOut s).pending = s.pending := by
  unfold tabletOut; simp

@[simp] theorem wheelsIn_frame (w : Word) :
    (wheelsIn w s).port = s.port ∧ (wheelsIn w s).bus = s.bus ∧ (wheelsIn w s).trk = s.trk ∧
    (wheelsIn w s).hv = s.hv ∧ (wheelsIn w s).band = s.band ∧ (wheelsIn w s).pat = s.pat ∧
    (wheelsIn w s).dir = s.dir ∧ (wheelsIn w s).flt = s.flt ∧ (wheelsIn w s).orderChoices = s.orderChoices ∧
    (wheelsIn w s).pending = s.pending := by
  unfold wheelsIn; simp

@[simp] theorem acceptSample_frame (p : Word × Word) (w : Word) :
    (acceptSample p w s).port = s.port ∧ (acceptSample p w s).bus = s.bus ∧ (acceptSample p w s).trk = s.trk ∧
    (acceptSample p w s).hv = s.hv ∧ (acceptSample p w s).band = s.band ∧ (acceptSample p w s).pat = s.pat ∧
    (acceptSample p w s).dir = s.dir ∧ (acceptSample p w s).orderChoices = s.orderChoices ∧
    (acceptSample p w s).pending = s.pending := by
  unfold acceptSample; (repeat' split) <;> simp

@[simp] theorem takeSample_frame (n i : Nat) (w : Word) :
    (takeSample n i w s).port = s.port ∧ (takeSample n i w s).bus = s.bus ∧ (takeSample n i w s).trk = s.trk ∧
    (takeSample n i w s).hv = s.hv ∧ (takeSample n i w s).band = s.band ∧ (takeSample n i w s).pat = s.pat ∧
    (takeSample n i w s).dir = s.dir ∧ (takeSample n i w s).orderChoices = s.orderChoices ∧
    (takeSample n i w s).pending = s.pending := by
  unfold takeSample; dsimp only; (repeat' split) <;> simp

@[simp] theorem mailboxWrite_frame (n i k : Nat) (w : Word) :
    (mailboxWrite n i k w s).port = s.port ∧ (mailboxWrite n i k w s).bus = s.bus ∧
    (mailboxWrite n i k w s).trk = s.trk ∧ (mailboxWrite n i k w s).hv = s.hv ∧
    (mailboxWrite n i k w s).band = s.band ∧ (mailboxWrite n i k w s).pat = s.pat ∧
    (mailboxWrite n i k w s).dir = s.dir ∧ (mailboxWrite n i k w s).orderChoices = s.orderChoices ∧
    (mailboxWrite n i k w s).pending = s.pending := by
  unfold mailboxWrite; (repeat' split) <;> simp

@[simp] theorem handMailbox_frame (a : Addr) (w : Word) :
    (handMailbox a w s).port = s.port ∧ (handMailbox a w s).bus = s.bus ∧ (handMailbox a w s).trk = s.trk ∧
    (handMailbox a w s).hv = s.hv ∧ (handMailbox a w s).band = s.band ∧ (handMailbox a w s).pat = s.pat ∧
    (handMailbox a w s).dir = s.dir ∧ (handMailbox a w s).orderChoices = s.orderChoices ∧
    (handMailbox a w s).pending = s.pending := by
  unfold handMailbox; (repeat' split) <;> simp

@[simp] theorem writeShadow_frame (i k : Nat) (w : Word) :
    (writeShadow i k w s).port = s.port ∧ (writeShadow i k w s).bus = s.bus ∧ (writeShadow i k w s).trk = s.trk ∧
    (writeShadow i k w s).hv = s.hv ∧ (writeShadow i k w s).se = s.se ∧ (writeShadow i k w s).cu = s.cu ∧
    (writeShadow i k w s).band = s.band ∧ (writeShadow i k w s).comp = s.comp ∧ (writeShadow i k w s).pat = s.pat ∧
    (writeShadow i k w s).pane = s.pane ∧ (writeShadow i k w s).flt = s.flt ∧
    (writeShadow i k w s).orderChoices = s.orderChoices ∧ (writeShadow i k w s).pending = s.pending := by
  unfold writeShadow; dsimp only; (repeat' split) <;> simp

@[simp] theorem postSlot_frame (i : BitVec 4) (w : Word) :
    (postSlot i w s).port = s.port ∧ (postSlot i w s).bus = s.bus ∧ (postSlot i w s).trk = s.trk ∧
    (postSlot i w s).hv = s.hv ∧ (postSlot i w s).se = s.se ∧ (postSlot i w s).cu = s.cu ∧
    (postSlot i w s).band = s.band ∧ (postSlot i w s).comp = s.comp ∧ (postSlot i w s).pat = s.pat ∧
    (postSlot i w s).pane = s.pane ∧ (postSlot i w s).orderChoices = s.orderChoices ∧
    (postSlot i w s).pending = s.pending := by
  unfold postSlot; dsimp only; (repeat' split) <;> simp

@[simp] theorem handStrap_frame (o : Nat) (w : Word) :
    (handStrap o w s).port = s.port ∧ (handStrap o w s).bus = s.bus ∧ (handStrap o w s).trk = s.trk ∧
    (handStrap o w s).hv = s.hv ∧ (handStrap o w s).se = s.se ∧ (handStrap o w s).cu = s.cu ∧
    (handStrap o w s).band = s.band ∧ (handStrap o w s).comp = s.comp ∧ (handStrap o w s).pat = s.pat ∧
    (handStrap o w s).pane = s.pane ∧ (handStrap o w s).orderChoices = s.orderChoices ∧
    (handStrap o w s).pending = s.pending := by
  unfold handStrap; (repeat' split) <;> simp

@[simp] theorem handWrite_frame (a : Addr) (w : Word) :
    (handWrite a w s).port = s.port ∧ (handWrite a w s).bus = s.bus ∧ (handWrite a w s).trk = s.trk ∧
    (handWrite a w s).band = s.band ∧ (handWrite a w s).pat = s.pat ∧
    (handWrite a w s).orderChoices = s.orderChoices ∧ (handWrite a w s).pending = s.pending := by
  unfold handWrite; (repeat' split) <;> simp

@[simp] theorem takeWrite_frame (a : Addr) (w : Word) :
    (takeWrite a w s).port = s.port ∧ (takeWrite a w s).trk = s.trk ∧ (takeWrite a w s).band = s.band ∧
    (takeWrite a w s).pat = s.pat ∧ (takeWrite a w s).orderChoices = s.orderChoices ∧
    (takeWrite a w s).pending = s.pending := by
  unfold takeWrite; simp

@[simp] theorem writeStrap_frame (o : Nat) (w : Word) :
    (writeStrap o w s).port = s.port ∧ (writeStrap o w s).trk = s.trk ∧ (writeStrap o w s).band = s.band ∧
    (writeStrap o w s).pat = s.pat ∧ (writeStrap o w s).orderChoices = s.orderChoices ∧
    (writeStrap o w s).pending = s.pending := by
  unfold writeStrap; (repeat' split) <;> simp

@[simp] theorem writeMailbox_frame (i k : Nat) (w : Word) :
    (writeMailbox i k w s).port = s.port ∧ (writeMailbox i k w s).trk = s.trk ∧ (writeMailbox i k w s).band = s.band ∧
    (writeMailbox i k w s).pat = s.pat ∧ (writeMailbox i k w s).orderChoices = s.orderChoices ∧
    (writeMailbox i k w s).pending = s.pending := by
  unfold writeMailbox; (repeat' split) <;> simp

@[simp] theorem pressAction_frame (b : Fin 4) (a : PressAction) (r : Result) :
    (pressAction b a r s).port = s.port ∧ (pressAction b a r s).bus = s.bus ∧ (pressAction b a r s).trk = s.trk ∧
    (pressAction b a r s).hv = s.hv ∧ (pressAction b a r s).se = s.se ∧ (pressAction b a r s).cu = s.cu ∧
    (pressAction b a r s).comp = s.comp ∧ (pressAction b a r s).pat = s.pat ∧ (pressAction b a r s).dir = s.dir ∧
    (pressAction b a r s).orderChoices = s.orderChoices ∧ (pressAction b a r s).pending = s.pending := by
  unfold pressAction; dsimp only; (repeat' split) <;> simp

@[simp] theorem pressButton_frame (m : BitVec 4) (r : Result) (b : Fin 4) :
    (pressButton m r s b).port = s.port ∧ (pressButton m r s b).bus = s.bus ∧ (pressButton m r s b).trk = s.trk ∧
    (pressButton m r s b).hv = s.hv ∧ (pressButton m r s b).se = s.se ∧ (pressButton m r s b).cu = s.cu ∧
    (pressButton m r s b).comp = s.comp ∧ (pressButton m r s b).pat = s.pat ∧ (pressButton m r s b).dir = s.dir ∧
    (pressButton m r s b).orderChoices = s.orderChoices ∧ (pressButton m r s b).pending = s.pending := by
  unfold pressButton; (repeat' split) <;> simp

@[simp] theorem pressActions_frame (m : BitVec 4) (r : Result) :
    (pressActions m r s).port = s.port ∧ (pressActions m r s).bus = s.bus ∧ (pressActions m r s).trk = s.trk ∧
    (pressActions m r s).hv = s.hv ∧ (pressActions m r s).se = s.se ∧ (pressActions m r s).cu = s.cu ∧
    (pressActions m r s).comp = s.comp ∧ (pressActions m r s).pat = s.pat ∧ (pressActions m r s).dir = s.dir ∧
    (pressActions m r s).orderChoices = s.orderChoices ∧ (pressActions m r s).pending = s.pending := by
  simp [pressActions]

@[simp] theorem publish_frame (q : Search) :
    (publish q s).port = s.port ∧ (publish q s).bus = s.bus ∧ (publish q s).trk = s.trk ∧ (publish q s).hv = s.hv ∧
    (publish q s).cu = s.cu ∧ (publish q s).band = s.band ∧ (publish q s).comp = s.comp ∧ (publish q s).pat = s.pat ∧
    (publish q s).dir = s.dir ∧ (publish q s).flt = s.flt ∧ (publish q s).orderChoices = s.orderChoices ∧
    (publish q s).pending = s.pending := by
  unfold publish; dsimp only; simp

@[simp] theorem applyPress_frame (q : Search) :
    (applyPress q s).port = s.port ∧ (applyPress q s).bus = s.bus ∧ (applyPress q s).trk = s.trk ∧
    (applyPress q s).hv = s.hv ∧ (applyPress q s).se = s.se ∧ (applyPress q s).cu = s.cu ∧
    (applyPress q s).comp = s.comp ∧ (applyPress q s).pat = s.pat ∧ (applyPress q s).dir = s.dir ∧
    (applyPress q s).orderChoices = s.orderChoices ∧ (applyPress q s).pending = s.pending := by
  unfold applyPress; (repeat' split) <;> simp

@[simp] theorem publishAndApply_frame (q : Search) :
    (publishAndApply q s).port = s.port ∧ (publishAndApply q s).bus = s.bus ∧ (publishAndApply q s).trk = s.trk ∧
    (publishAndApply q s).cu = s.cu ∧ (publishAndApply q s).pat = s.pat ∧ (publishAndApply q s).dir = s.dir ∧
    (publishAndApply q s).orderChoices = s.orderChoices ∧ (publishAndApply q s).pending = s.pending := by
  unfold publishAndApply; dsimp only; (repeat' split) <;> simp

@[simp] theorem noteRefusal_frame (e : DirEntry) (r : Option Reason) :
    (noteRefusal e r s).port = s.port ∧ (noteRefusal e r s).bus = s.bus ∧ (noteRefusal e r s).trk = s.trk ∧
    (noteRefusal e r s).hv = s.hv ∧ (noteRefusal e r s).se = s.se ∧ (noteRefusal e r s).cu = s.cu ∧
    (noteRefusal e r s).band = s.band ∧ (noteRefusal e r s).comp = s.comp ∧ (noteRefusal e r s).pat = s.pat ∧
    (noteRefusal e r s).dir = s.dir ∧ (noteRefusal e r s).orderChoices = s.orderChoices ∧
    (noteRefusal e r s).pending = s.pending := by
  unfold noteRefusal; (repeat' split) <;> simp

@[simp] theorem leaveQueue_frame :
    (leaveQueue s).port = s.port ∧ (leaveQueue s).bus = s.bus ∧ (leaveQueue s).trk = s.trk ∧
    (leaveQueue s).hv = s.hv ∧ (leaveQueue s).se = s.se ∧ (leaveQueue s).cu = s.cu ∧ (leaveQueue s).band = s.band ∧
    (leaveQueue s).comp = s.comp ∧ (leaveQueue s).pat = s.pat ∧ (leaveQueue s).flt = s.flt ∧
    (leaveQueue s).orderChoices = s.orderChoices ∧ (leaveQueue s).pending = s.pending := by
  unfold leaveQueue; dsimp only; (repeat' split) <;> simp

@[simp] theorem endPass_frame (i : PassInputs) :
    (endPass i s).port = s.port ∧ (endPass i s).bus = s.bus ∧ (endPass i s).trk = s.trk ∧ (endPass i s).hv = s.hv ∧
    (endPass i s).se = s.se ∧ (endPass i s).cu = s.cu ∧ (endPass i s).band = s.band ∧ (endPass i s).pat = s.pat ∧
    (endPass i s).dir = s.dir ∧ (endPass i s).pane = s.pane ∧ (endPass i s).flt = s.flt ∧
    (endPass i s).orderChoices = s.orderChoices ∧ (endPass i s).pending = s.pending := by
  unfold endPass; dsimp only; (repeat' split) <;> simp

@[simp] theorem closePeekLatch_frame :
    (closePeekLatch s).port = s.port ∧ (closePeekLatch s).bus = s.bus ∧ (closePeekLatch s).trk = s.trk ∧
    (closePeekLatch s).hv = s.hv ∧ (closePeekLatch s).se = s.se ∧ (closePeekLatch s).cu = s.cu ∧
    (closePeekLatch s).band = s.band ∧ (closePeekLatch s).comp = s.comp ∧ (closePeekLatch s).pat = s.pat ∧
    (closePeekLatch s).dir = s.dir ∧ (closePeekLatch s).flt = s.flt ∧
    (closePeekLatch s).orderChoices = s.orderChoices ∧ (closePeekLatch s).pending = s.pending := by
  unfold closePeekLatch; dsimp only; (repeat' split) <;> simp

end Sys2Proof.Machine
end

