-- ==== Sys2Proof/Laws/Fields.lean ====
section
/-! SUPPORT. What the shared operations keep of the blocks they do change: one lemma per operation. -/

namespace Sys2Proof.Machine

variable (s : State)

@[simp] theorem captureWord_keeps (i : Nat) (b : Bool) (w : Word) (c : CursorUnit) :
    (captureWord i b w c).source = c.source ∧ (captureWord i b w c).ox = c.ox ∧ (captureWord i b w c).oy = c.oy ∧
    (captureWord i b w c).gx = c.gx ∧ (captureWord i b w c).gy = c.gy ∧ (captureWord i b w c).wheel = c.wheel ∧
    (captureWord i b w c).map = c.map ∧ (captureWord i b w c).pos = c.pos ∧ (captureWord i b w c).edge = c.edge ∧
    (captureWord i b w c).inRange = c.inRange ∧ (captureWord i b w c).prev = c.prev ∧
    (captureWord i b w c).ring = c.ring := by
  unfold captureWord; split <;> simp

@[simp] theorem bandAct_keeps (a : PressAction) (p : Pt) (b : Band) :
    (b.act a p).shape = b.shape ∧ (b.act a p).period = b.period ∧ (b.act a p).onLen = b.onLen ∧
    (b.act a p).march = b.march := by
  unfold Band.act Band.append Band.withAnchor; (repeat' split) <;> simp

@[simp] theorem trigger_keeps :
    (trigger s).comp.staged = s.comp.staged ∧ (trigger s).comp.serving = s.comp.serving ∧
    (trigger s).comp.entered = s.comp.entered ∧ (trigger s).comp.style = s.comp.style := by
  unfold trigger; dsimp only; (repeat' split) <;> simp

@[simp] theorem fileMotion_keeps :
    (fileMotion s).se.presses = s.se.presses ∧ (fileMotion s).se.search = s.se.search ∧
    (fileMotion s).se.result = s.se.result ∧ (fileMotion s).se.identity = s.se.identity ∧
    (fileMotion s).se.snap = s.se.snap ∧ (fileMotion s).se.grid = s.se.grid ∧ (fileMotion s).se.dirs = s.se.dirs ∧
    (fileMotion s).se.mode = s.se.mode ∧ (fileMotion s).se.startOwed = s.se.startOwed := by
  unfold fileMotion; dsimp only; (repeat' split) <;> simp

@[simp] theorem filePress_keeps (p : Press) :
    (filePress p s).se.search = s.se.search ∧ (filePress p s).se.result = s.se.result ∧
    (filePress p s).se.identity = s.se.identity ∧ (filePress p s).se.snap = s.se.snap ∧
    (filePress p s).se.grid = s.se.grid ∧ (filePress p s).se.dirs = s.se.dirs ∧ (filePress p s).se.mode = s.se.mode ∧
    (filePress p s).se.startOwed = s.se.startOwed ∧
    (filePress p s).flt.last = s.flt.last ∧ (filePress p s).flt.seq = s.flt.seq ∧
    (filePress p s).flt.stopCause = s.flt.stopCause ∧ (filePress p s).flt.latch = s.flt.latch ∧
    (filePress p s).flt.responses = s.flt.responses ∧ (filePress p s).flt.watches = s.flt.watches ∧
    (filePress p s).flt.locates = s.flt.locates := by
  unfold filePress; dsimp only; (repeat' split) <;> simp

@[simp] theorem searchProximity_keeps (b : Bool) :
    (searchProximity b s).se.presses = s.se.presses ∧ (searchProximity b s).se.search = s.se.search ∧
    (searchProximity b s).se.identity = s.se.identity ∧ (searchProximity b s).se.snap = s.se.snap ∧
    (searchProximity b s).se.grid = s.se.grid ∧ (searchProximity b s).se.dirs = s.se.dirs ∧
    (searchProximity b s).se.mode = s.se.mode ∧ (searchProximity b s).se.result.point = s.se.result.point := by
  unfold searchProximity; dsimp only; (repeat' split) <;> simp

@[simp] theorem setProximity_keeps (b : Bool) :
    (setProximity b s).cu.source = s.cu.source ∧ (setProximity b s).cu.ox = s.cu.ox ∧
    (setProximity b s).cu.oy = s.cu.oy ∧ (setProximity b s).cu.gx = s.cu.gx ∧ (setProximity b s).cu.gy = s.cu.gy ∧
    (setProximity b s).cu.wheel = s.cu.wheel ∧ (setProximity b s).cu.map = s.cu.map ∧
    (setProximity b s).cu.pos = s.cu.pos ∧ (setProximity b s).cu.edge = s.cu.edge ∧
    (setProximity b s).cu.prev = s.cu.prev ∧ (setProximity b s).cu.ring = s.cu.ring ∧
    (setProximity b s).cu.capture = s.cu.capture ∧ (setProximity b s).pane.mask = s.pane.mask ∧
    (setProximity b s).pane.resultLatch = s.pane.resultLatch ∧
    (setProximity b s).pane.commitLatch = s.pane.commitLatch ∧ (setProximity b s).pane.peekLatch = s.pane.peekLatch ∧
    (setProximity b s).pane.peek = s.pane.peek ∧ (setProximity b s).se.presses = s.se.presses ∧
    (setProximity b s).se.search = s.se.search ∧ (setProximity b s).se.identity = s.se.identity ∧
    (setProximity b s).se.snap = s.se.snap ∧ (setProximity b s).se.grid = s.se.grid ∧
    (setProximity b s).se.dirs = s.se.dirs ∧ (setProximity b s).se.mode = s.se.mode ∧
    (setProximity b s).se.result.point = s.se.result.point ∧ (setProximity b s).comp.staged = s.comp.staged ∧
    (setProximity b s).comp.serving = s.comp.serving ∧ (setProximity b s).comp.entered = s.comp.entered ∧
    (setProximity b s).comp.style = s.comp.style := by
  unfold setProximity; dsimp only; (repeat' split) <;> simp

@[simp] theorem startSearch_keeps :
    (startSearch s).se.result = s.se.result ∧ (startSearch s).se.identity = s.se.identity ∧
    (startSearch s).se.snap = s.se.snap ∧ (startSearch s).se.grid = s.se.grid ∧ (startSearch s).se.dirs = s.se.dirs ∧
    (startSearch s).se.mode = s.se.mode := by
  unfold startSearch; dsimp only; (repeat' split) <;> simp

@[simp] theorem startOwedSearch_keeps :
    (startOwedSearch s).se.result = s.se.result ∧ (startOwedSearch s).se.identity = s.se.identity ∧
    (startOwedSearch s).se.snap = s.se.snap ∧ (startOwedSearch s).se.grid = s.se.grid ∧
    (startOwedSearch s).se.dirs = s.se.dirs ∧ (startOwedSearch s).se.mode = s.se.mode := by
  unfold startOwedSearch; (repeat' split) <;> simp

@[simp] theorem promote_keeps :
    (promote s).pane.flags = s.pane.flags ∧ (promote s).pane.mask = s.pane.mask ∧
    (promote s).pane.resultLatch = s.pane.resultLatch ∧ (promote s).pane.commitLatch = s.pane.commitLatch ∧
    (promote s).se.presses = s.se.presses ∧ (promote s).se.search = s.se.search ∧
    (promote s).se.result = s.se.result ∧ (promote s).se.identity = s.se.identity ∧ (promote s).se.snap = s.se.snap ∧
    (promote s).se.grid = s.se.grid ∧ (promote s).se.dirs = s.se.dirs ∧ (promote s).se.mode = s.se.mode := by
  unfold promote; dsimp only; (repeat' split) <;> simp

@[simp] theorem recordFault_keeps (f : Raised) :
    (recordFault f s).pane.mask = s.pane.mask ∧ (recordFault f s).pane.resultLatch = s.pane.resultLatch ∧
    (recordFault f s).pane.commitLatch = s.pane.commitLatch ∧ (recordFault f s).pane.peekLatch = s.pane.peekLatch ∧
    (recordFault f s).pane.peek = s.pane.peek ∧ (recordFault f s).flt.stopCause = s.flt.stopCause ∧
    (recordFault f s).flt.responses = s.flt.responses ∧ (recordFault f s).flt.watches = s.flt.watches ∧
    (recordFault f s).flt.locates = s.flt.locates ∧ (recordFault f s).flt.raised = s.flt.raised := by
  unfold recordFault; dsimp only; simp

@[simp] theorem raiseOverrun_keeps (b : Bool) (n : BitVec 32) :
    (raiseOverrun b n s).flt.last = s.flt.last ∧ (raiseOverrun b n s).flt.seq = s.flt.seq ∧
    (raiseOverrun b n s).flt.stopCause = s.flt.stopCause ∧ (raiseOverrun b n s).flt.latch = s.flt.latch ∧
    (raiseOverrun b n s).flt.responses = s.flt.responses ∧ (raiseOverrun b n s).flt.watches = s.flt.watches ∧
    (raiseOverrun b n s).flt.locates = s.flt.locates := by
  unfold raiseOverrun; (repeat' split) <;> simp

@[simp] theorem recordDrop_keeps (l m : List QItem) :
    (recordDrop l m s).flt.last = s.flt.last ∧ (recordDrop l m s).flt.seq = s.flt.seq ∧
    (recordDrop l m s).flt.stopCause = s.flt.stopCause ∧ (recordDrop l m s).flt.latch = s.flt.latch ∧
    (recordDrop l m s).flt.responses = s.flt.responses ∧ (recordDrop l m s).flt.watches = s.flt.watches ∧
    (recordDrop l m s).flt.locates = s.flt.locates := by
  unfold recordDrop; dsimp only; (repeat' split) <;> simp

@[simp] theorem queueItem_keeps (i : QItem) :
    (queueItem i s).flt.last = s.flt.last ∧ (queueItem i s).flt.seq = s.flt.seq ∧
    (queueItem i s).flt.stopCause = s.flt.stopCause ∧ (queueItem i s).flt.latch = s.flt.latch ∧
    (queueItem i s).flt.responses = s.flt.responses ∧ (queueItem i s).flt.watches = s.flt.watches ∧
    (queueItem i s).flt.locates = s.flt.locates := by
  unfold queueItem; dsimp only; (repeat' split) <;> simp

@[simp] theorem queueMarker_keeps (i : QItem) :
    (queueMarker i s).flt.last = s.flt.last ∧ (queueMarker i s).flt.seq = s.flt.seq ∧
    (queueMarker i s).flt.stopCause = s.flt.stopCause ∧ (queueMarker i s).flt.latch = s.flt.latch ∧
    (queueMarker i s).flt.responses = s.flt.responses ∧ (queueMarker i s).flt.watches = s.flt.watches ∧
    (queueMarker i s).flt.locates = s.flt.locates := by
  unfold queueMarker; dsimp only; (repeat' split) <;> simp

@[simp] theorem takeEnd_keeps :
    (takeEnd s).pane.flags = s.pane.flags ∧ (takeEnd s).pane.mask = s.pane.mask ∧
    (takeEnd s).pane.resultLatch = s.pane.resultLatch ∧ (takeEnd s).pane.commitLatch = s.pane.commitLatch ∧
    (takeEnd s).se.result = s.se.result ∧ (takeEnd s).se.identity = s.se.identity ∧ (takeEnd s).se.snap = s.se.snap ∧
    (takeEnd s).se.grid = s.se.grid ∧ (takeEnd s).se.dirs = s.se.dirs ∧ (takeEnd s).se.mode = s.se.mode := by
  unfold takeEnd; dsimp only; (repeat' split) <;> simp

@[simp] theorem offerEntry_keeps (e : Entry) :
    (offerEntry e s).flt.last = s.flt.last ∧ (offerEntry e s).flt.seq = s.flt.seq ∧
    (offerEntry e s).flt.stopCause = s.flt.stopCause ∧ (offerEntry e s).flt.latch = s.flt.latch ∧
    (offerEntry e s).flt.responses = s.flt.responses ∧ (offerEntry e s).flt.watches = s.flt.watches ∧
    (offerEntry e s).flt.locates = s.flt.locates := by
  unfold offerEntry; dsimp only; (repeat' split) <;> simp

@[simp] theorem offerEntries_keeps (l : List Entry) :
    (offerEntries l s).flt.last = s.flt.last ∧ (offerEntries l s).flt.seq = s.flt.seq ∧
    (offerEntries l s).flt.stopCause = s.flt.stopCause ∧ (offerEntries l s).flt.latch = s.flt.latch ∧
    (offerEntries l s).flt.responses = s.flt.responses ∧ (offerEntries l s).flt.watches = s.flt.watches ∧
    (offerEntries l s).flt.locates = s.flt.locates := by
  unfold offerEntries
  induction l generalizing s with
  | nil => simp
  | cons e l ih => simp [List.foldl_cons, ih]

@[simp] theorem patternStep_keeps :
    (patternStep s).comp.staged = s.comp.staged ∧ (patternStep s).comp.serving = s.comp.serving ∧
    (patternStep s).comp.entered = s.comp.entered ∧ (patternStep s).comp.style = s.comp.style ∧
    (patternStep s).pat.cascade = s.pat.cascade ∧ (patternStep s).pat.frozen = s.pat.frozen := by
  unfold patternStep Patterns.stepChannels Patterns.cascadeStep Patterns.setCascade; dsimp only; (repeat' split) <;> simp

@[simp] theorem discardOpenFrame_keeps :
    (discardOpenFrame s).flt.last = s.flt.last ∧ (discardOpenFrame s).flt.seq = s.flt.seq ∧
    (discardOpenFrame s).flt.stopCause = s.flt.stopCause ∧ (discardOpenFrame s).flt.latch = s.flt.latch ∧
    (discardOpenFrame s).flt.responses = s.flt.responses ∧ (discardOpenFrame s).flt.watches = s.flt.watches ∧
    (discardOpenFrame s).flt.locates = s.flt.locates := by
  unfold discardOpenFrame; (repeat' split) <;> simp

@[simp] theorem goLost_keeps :
    (goLost s).flt.last = s.flt.last ∧ (goLost s).flt.seq = s.flt.seq ∧ (goLost s).flt.stopCause = s.flt.stopCause ∧
    (goLost s).flt.latch = s.flt.latch ∧ (goLost s).flt.responses = s.flt.responses ∧
    (goLost s).flt.watches = s.flt.watches ∧ (goLost s).flt.locates = s.flt.locates ∧
    (goLost s).trk.expected = s.trk.expected ∧ (goLost s).trk.lastWord = s.trk.lastWord ∧
    (goLost s).trk.current = s.trk.current ∧ (goLost s).trk.origin = s.trk.origin ∧
    (goLost s).trk.offset = s.trk.offset ∧ (goLost s).trk.attr = s.trk.attr ∧
    (goLost s).trk.frames = s.trk.frames := by
  unfold goLost; simp

@[simp] theorem loseTrack_keeps (c : FaultCode) (a : Addr) :
    (loseTrack c a s).flt.last = s.flt.last ∧ (loseTrack c a s).flt.seq = s.flt.seq ∧
    (loseTrack c a s).flt.stopCause = s.flt.stopCause ∧ (loseTrack c a s).flt.latch = s.flt.latch ∧
    (loseTrack c a s).flt.responses = s.flt.responses ∧ (loseTrack c a s).flt.watches = s.flt.watches ∧
    (loseTrack c a s).flt.locates = s.flt.locates ∧ (loseTrack c a s).trk.expected = s.trk.expected ∧
    (loseTrack c a s).trk.lastWord = s.trk.lastWord ∧ (loseTrack c a s).trk.current = s.trk.current ∧
    (loseTrack c a s).trk.origin = s.trk.origin ∧ (loseTrack c a s).trk.offset = s.trk.offset ∧
    (loseTrack c a s).trk.attr = s.trk.attr ∧ (loseTrack c a s).trk.frames = s.trk.frames := by
  unfold loseTrack; simp

@[simp] theorem applyDraw_keeps (a : Addr) (p : Pt) :
    (applyDraw a p s).flt.last = s.flt.last ∧ (applyDraw a p s).flt.seq = s.flt.seq ∧
    (applyDraw a p s).flt.stopCause = s.flt.stopCause ∧ (applyDraw a p s).flt.latch = s.flt.latch ∧
    (applyDraw a p s).flt.responses = s.flt.responses ∧ (applyDraw a p s).flt.watches = s.flt.watches ∧
    (applyDraw a p s).flt.locates = s.flt.locates ∧ (applyDraw a p s).trk.state = s.trk.state ∧
    (applyDraw a p s).trk.frameOpen = s.trk.frameOpen ∧ (applyDraw a p s).trk.record = s.trk.record ∧
    (applyDraw a p s).trk.lastWord = s.trk.lastWord ∧ (applyDraw a p s).trk.offset = s.trk.offset ∧
    (applyDraw a p s).trk.attr = s.trk.attr ∧ (applyDraw a p s).trk.calls = s.trk.calls ∧
    (applyDraw a p s).trk.inWindow = s.trk.inWindow ∧ (applyDraw a p s).trk.frames = s.trk.frames := by
  unfold applyDraw; dsimp only; (repeat' split) <;> simp

@[simp] theorem applyCircle_keeps (a h : Addr) (c : Pt) (i : Bool) (w : Word) :
    (applyCircle a h c i w s).flt.last = s.flt.last ∧ (applyCircle a h c i w s).flt.seq = s.flt.seq ∧
    (applyCircle a h c i w s).flt.stopCause = s.flt.stopCause ∧ (applyCircle a h c i w s).flt.latch = s.flt.latch ∧
    (applyCircle a h c i w s).flt.responses = s.flt.responses ∧
    (applyCircle a h c i w s).flt.watches = s.flt.watches ∧ (applyCircle a h c i w s).flt.locates = s.flt.locates ∧
    (applyCircle a h c i w s).trk.state = s.trk.state ∧ (applyCircle a h c i w s).trk.frameOpen = s.trk.frameOpen ∧
    (applyCircle a h c i w s).trk.lastWord = s.trk.lastWord ∧ (applyCircle a h c i w s).trk.offset = s.trk.offset ∧
    (applyCircle a h c i w s).trk.attr = s.trk.attr ∧ (applyCircle a h c i w s).trk.calls = s.trk.calls ∧
    (applyCircle a h c i w s).trk.inWindow = s.trk.inWindow ∧
    (applyCircle a h c i w s).trk.frames = s.trk.frames := by
  unfold applyCircle; dsimp only; (repeat' split) <;> simp

@[simp] theorem applyReturn_keeps (a : Addr) :
    (applyReturn a s).flt.last = s.flt.last ∧ (applyReturn a s).flt.seq = s.flt.seq ∧
    (applyReturn a s).flt.stopCause = s.flt.stopCause ∧ (applyReturn a s).flt.latch = s.flt.latch ∧
    (applyReturn a s).flt.responses = s.flt.responses ∧ (applyReturn a s).flt.watches = s.flt.watches ∧
    (applyReturn a s).flt.locates = s.flt.locates := by
  unfold applyReturn; dsimp only; (repeat' split) <;> simp

@[simp] theorem applyFrame_keeps (a : Addr) :
    (applyFrame a s).flt.last = s.flt.last ∧ (applyFrame a s).flt.seq = s.flt.seq ∧
    (applyFrame a s).flt.stopCause = s.flt.stopCause ∧ (applyFrame a s).flt.latch = s.flt.latch ∧
    (applyFrame a s).flt.responses = s.flt.responses ∧ (applyFrame a s).flt.watches = s.flt.watches ∧
    (applyFrame a s).flt.locates = s.flt.locates ∧ (applyFrame a s).trk.state = s.trk.state ∧
    (applyFrame a s).trk.record = s.trk.record ∧ (applyFrame a s).trk.lastWord = s.trk.lastWord ∧
    (applyFrame a s).trk.current = s.trk.current ∧ (applyFrame a s).trk.origin = s.trk.origin ∧
    (applyFrame a s).trk.offset = s.trk.offset ∧ (applyFrame a s).trk.attr = s.trk.attr ∧
    (applyFrame a s).trk.calls = s.trk.calls ∧ (applyFrame a s).trk.inWindow = s.trk.inWindow ∧
    (applyFrame a s).trk.frames = s.trk.frames := by
  unfold applyFrame; dsimp only; simp

@[simp] theorem takeHead_keeps (l a : Addr) (w : Word) :
    (takeHead l a w s).flt.last = s.flt.last ∧ (takeHead l a w s).flt.seq = s.flt.seq ∧
    (takeHead l a w s).flt.stopCause = s.flt.stopCause ∧ (takeHead l a w s).flt.latch = s.flt.latch ∧
    (takeHead l a w s).flt.responses = s.flt.responses ∧ (takeHead l a w s).flt.watches = s.flt.watches ∧
    (takeHead l a w s).flt.locates = s.flt.locates := by
  unfold takeHead; dsimp only; (repeat' split) <;> simp

@[simp] theorem takeWord_keeps (l a : Addr) (w : Word) :
    (takeWord l a w s).flt.last = s.flt.last ∧ (takeWord l a w s).flt.seq = s.flt.seq ∧
    (takeWord l a w s).flt.stopCause = s.flt.stopCause ∧ (takeWord l a w s).flt.latch = s.flt.latch ∧
    (takeWord l a w s).flt.responses = s.flt.responses ∧ (takeWord l a w s).flt.watches = s.flt.watches ∧
    (takeWord l a w s).flt.locates = s.flt.locates := by
  unfold takeWord; dsimp only; (repeat' split) <;> simp

@[simp] theorem frameStart_keeps (l : Addr) (w : Word) :
    (frameStart l w s).flt.last = s.flt.last ∧ (frameStart l w s).flt.seq = s.flt.seq ∧
    (frameStart l w s).flt.stopCause = s.flt.stopCause ∧ (frameStart l w s).flt.latch = s.flt.latch ∧
    (frameStart l w s).flt.responses = s.flt.responses ∧ (frameStart l w s).flt.watches = s.flt.watches ∧
    (frameStart l w s).flt.locates = s.flt.locates ∧ (frameStart l w s).comp.staged = s.comp.staged ∧
    (frameStart l w s).comp.serving = s.comp.serving ∧ (frameStart l w s).comp.entered = s.comp.entered ∧
    (frameStart l w s).comp.style = s.comp.style ∧ (frameStart l w s).pat.cascade = s.pat.cascade ∧
    (frameStart l w s).pat.frozen = s.pat.frozen := by
  unfold frameStart; dsimp only; simp

@[simp] theorem abortFrame_keeps :
    (abortFrame s).flt.last = s.flt.last ∧ (abortFrame s).flt.seq = s.flt.seq ∧
    (abortFrame s).flt.stopCause = s.flt.stopCause ∧ (abortFrame s).flt.latch = s.flt.latch ∧
    (abortFrame s).flt.responses = s.flt.responses ∧ (abortFrame s).flt.watches = s.flt.watches ∧
    (abortFrame s).flt.locates = s.flt.locates := by
  unfold abortFrame; (repeat' split) <;> simp

@[simp] theorem trackRead_keeps (l a : Addr) (w : Word) :
    (trackRead l a w s).flt.last = s.flt.last ∧ (trackRead l a w s).flt.seq = s.flt.seq ∧
    (trackRead l a w s).flt.stopCause = s.flt.stopCause ∧ (trackRead l a w s).flt.latch = s.flt.latch ∧
    (trackRead l a w s).flt.responses = s.flt.responses ∧ (trackRead l a w s).flt.watches = s.flt.watches ∧
    (trackRead l a w s).flt.locates = s.flt.locates ∧ (trackRead l a w s).comp.staged = s.comp.staged ∧
    (trackRead l a w s).comp.serving = s.comp.serving ∧ (trackRead l a w s).comp.entered = s.comp.entered ∧
    (trackRead l a w s).comp.style = s.comp.style ∧ (trackRead l a w s).pat.cascade = s.pat.cascade ∧
    (trackRead l a w s).pat.frozen = s.pat.frozen := by
  unfold trackRead; (repeat' split) <;> simp

@[simp] theorem copyToTracker_keeps (a : Addr) :
    (copyToTracker a s).flt.last = s.flt.last ∧ (copyToTracker a s).flt.seq = s.flt.seq ∧
    (copyToTracker a s).flt.stopCause = s.flt.stopCause ∧ (copyToTracker a s).flt.latch = s.flt.latch ∧
    (copyToTracker a s).flt.responses = s.flt.responses ∧ (copyToTracker a s).flt.watches = s.flt.watches ∧
    (copyToTracker a s).flt.locates = s.flt.locates ∧ (copyToTracker a s).comp.staged = s.comp.staged ∧
    (copyToTracker a s).comp.serving = s.comp.serving ∧ (copyToTracker a s).comp.entered = s.comp.entered ∧
    (copyToTracker a s).comp.style = s.comp.style ∧ (copyToTracker a s).pat.cascade = s.pat.cascade ∧
    (copyToTracker a s).pat.frozen = s.pat.frozen := by
  unfold copyToTracker; (repeat' split) <;> simp

@[simp] theorem latchWindow_keeps :
    (latchWindow s).comp.pass = s.comp.pass ∧ (latchWindow s).comp.again = s.comp.again ∧
    (latchWindow s).comp.staged = s.comp.staged ∧ (latchWindow s).comp.style = s.comp.style := by
  unfold latchWindow; dsimp only; simp

@[simp] theorem strokeWindow_keeps (k : Nat) :
    ((strokeWindow k s).1).comp.pass = s.comp.pass ∧ ((strokeWindow k s).1).comp.again = s.comp.again ∧
    ((strokeWindow k s).1).comp.staged = s.comp.staged ∧ ((strokeWindow k s).1).comp.style = s.comp.style ∧
    ((strokeWindow k s).1).flt.last = s.flt.last ∧ ((strokeWindow k s).1).flt.seq = s.flt.seq ∧
    ((strokeWindow k s).1).flt.stopCause = s.flt.stopCause ∧ ((strokeWindow k s).1).flt.latch = s.flt.latch ∧
    ((strokeWindow k s).1).flt.responses = s.flt.responses ∧ ((strokeWindow k s).1).flt.watches = s.flt.watches ∧
    ((strokeWindow k s).1).flt.locates = s.flt.locates := by
  unfold strokeWindow; dsimp only; (repeat' split) <;> simp

@[simp] theorem strokeAnswer_keeps (a : Addr) (m : Word) :
    (strokeAnswer a m s).comp.pass = s.comp.pass ∧ (strokeAnswer a m s).comp.again = s.comp.again ∧
    (strokeAnswer a m s).comp.staged = s.comp.staged ∧ (strokeAnswer a m s).comp.style = s.comp.style ∧
    (strokeAnswer a m s).flt.last = s.flt.last ∧ (strokeAnswer a m s).flt.seq = s.flt.seq ∧
    (strokeAnswer a m s).flt.stopCause = s.flt.stopCause ∧ (strokeAnswer a m s).flt.latch = s.flt.latch ∧
    (strokeAnswer a m s).flt.responses = s.flt.responses ∧ (strokeAnswer a m s).flt.watches = s.flt.watches ∧
    (strokeAnswer a m s).flt.locates = s.flt.locates := by
  unfold strokeAnswer; (repeat' split) <;> simp

@[simp] theorem chooseFreeze_keeps (a : Addr) :
    (chooseFreeze a s).pat.cascade = s.pat.cascade ∧ (chooseFreeze a s).pat.a = s.pat.a ∧
    (chooseFreeze a s).pat.b = s.pat.b ∧ (chooseFreeze a s).pat.phase = s.pat.phase := by
  unfold chooseFreeze; dsimp only; (repeat' split) <;> simp

@[simp] theorem matchWatch0_keeps (a : Addr) :
    (matchWatch0 a s).pane.mask = s.pane.mask ∧ (matchWatch0 a s).pane.resultLatch = s.pane.resultLatch ∧
    (matchWatch0 a s).pane.commitLatch = s.pane.commitLatch ∧ (matchWatch0 a s).pane.peekLatch = s.pane.peekLatch ∧
    (matchWatch0 a s).pane.peek = s.pane.peek ∧ (matchWatch0 a s).flt.last = s.flt.last ∧
    (matchWatch0 a s).flt.seq = s.flt.seq ∧ (matchWatch0 a s).flt.stopCause = s.flt.stopCause ∧
    (matchWatch0 a s).flt.latch = s.flt.latch ∧ (matchWatch0 a s).flt.responses = s.flt.responses ∧
    (matchWatch0 a s).flt.watches = s.flt.watches ∧ (matchWatch0 a s).flt.raised = s.flt.raised := by
  unfold matchWatch0; dsimp only; (repeat' split) <;> simp

@[simp] theorem matchWatch1_keeps (a : Addr) :
    (matchWatch1 a s).pane.mask = s.pane.mask ∧ (matchWatch1 a s).pane.resultLatch = s.pane.resultLatch ∧
    (matchWatch1 a s).pane.commitLatch = s.pane.commitLatch ∧ (matchWatch1 a s).pane.peekLatch = s.pane.peekLatch ∧
    (matchWatch1 a s).pane.peek = s.pane.peek ∧ (matchWatch1 a s).flt.last = s.flt.last ∧
    (matchWatch1 a s).flt.seq = s.flt.seq ∧ (matchWatch1 a s).flt.stopCause = s.flt.stopCause ∧
    (matchWatch1 a s).flt.latch = s.flt.latch ∧ (matchWatch1 a s).flt.responses = s.flt.responses ∧
    (matchWatch1 a s).flt.watches = s.flt.watches ∧ (matchWatch1 a s).flt.raised = s.flt.raised := by
  unfold matchWatch1; dsimp only; (repeat' split) <;> simp

@[simp] theorem matchWatches_keeps (a : Addr) :
    (matchWatches a s).pane.mask = s.pane.mask ∧ (matchWatches a s).pane.resultLatch = s.pane.resultLatch ∧
    (matchWatches a s).pane.commitLatch = s.pane.commitLatch ∧ (matchWatches a s).pane.peekLatch = s.pane.peekLatch ∧
    (matchWatches a s).pane.peek = s.pane.peek ∧ (matchWatches a s).flt.last = s.flt.last ∧
    (matchWatches a s).flt.seq = s.flt.seq ∧ (matchWatches a s).flt.stopCause = s.flt.stopCause ∧
    (matchWatches a s).flt.latch = s.flt.latch ∧ (matchWatches a s).flt.responses = s.flt.responses ∧
    (matchWatches a s).flt.watches = s.flt.watches ∧ (matchWatches a s).flt.raised = s.flt.raised ∧
    (matchWatches a s).pat.cascade = s.pat.cascade ∧ (matchWatches a s).pat.a = s.pat.a ∧
    (matchWatches a s).pat.b = s.pat.b ∧ (matchWatches a s).pat.phase = s.pat.phase := by
  unfold matchWatches; dsimp only; (repeat' split) <;> simp

@[simp] theorem ringCheck_keeps (n i : Nat) :
    (ringCheck n i s).cu.source = s.cu.source ∧ (ringCheck n i s).cu.ox = s.cu.ox ∧
    (ringCheck n i s).cu.oy = s.cu.oy ∧ (ringCheck n i s).cu.gx = s.cu.gx ∧ (ringCheck n i s).cu.gy = s.cu.gy ∧
    (ringCheck n i s).cu.wheel = s.cu.wheel ∧ (ringCheck n i s).cu.map = s.cu.map ∧
    (ringCheck n i s).cu.pos = s.cu.pos ∧ (ringCheck n i s).cu.edge = s.cu.edge ∧
    (ringCheck n i s).cu.inRange = s.cu.inRange ∧ (ringCheck n i s).cu.prev = s.cu.prev ∧
    (ringCheck n i s).cu.capture = s.cu.capture ∧ (ringCheck n i s).flt.last = s.flt.last ∧
    (ringCheck n i s).flt.seq = s.flt.seq ∧ (ringCheck n i s).flt.stopCause = s.flt.stopCause ∧
    (ringCheck n i s).flt.latch = s.flt.latch ∧ (ringCheck n i s).flt.responses = s.flt.responses ∧
    (ringCheck n i s).flt.watches = s.flt.watches ∧ (ringCheck n i s).flt.locates = s.flt.locates := by
  unfold ringCheck; dsimp only; (repeat' split) <;> simp

@[simp] theorem fileSample_keeps (p : Pt) (m : BitVec 4) :
    (fileSample p m s).se.search = s.se.search ∧ (fileSample p m s).se.result = s.se.result ∧
    (fileSample p m s).se.identity = s.se.identity ∧ (fileSample p m s).se.snap = s.se.snap ∧
    (fileSample p m s).se.grid = s.se.grid ∧ (fileSample p m s).se.dirs = s.se.dirs ∧
    (fileSample p m s).se.mode = s.se.mode ∧ (fileSample p m s).comp.staged = s.comp.staged ∧
    (fileSample p m s).comp.serving = s.comp.serving ∧ (fileSample p m s).comp.entered = s.comp.entered ∧
    (fileSample p m s).comp.style = s.comp.style ∧ (fileSample p m s).flt.last = s.flt.last ∧
    (fileSample p m s).flt.seq = s.flt.seq ∧ (fileSample p m s).flt.stopCause = s.flt.stopCause ∧
    (fileSample p m s).flt.latch = s.flt.latch ∧ (fileSample p m s).flt.responses = s.flt.responses ∧
    (fileSample p m s).flt.watches = s.flt.watches ∧ (fileSample p m s).flt.locates = s.flt.locates := by
  unfold fileSample; dsimp only; (repeat' split) <;> simp

@[simp] theorem finishSample_keeps (p : Pt) (b : BitVec 4) :
    (finishSample p b s).cu.source = s.cu.source ∧ (finishSample p b s).cu.ox = s.cu.ox ∧
    (finishSample p b s).cu.oy = s.cu.oy ∧ (finishSample p b s).cu.gx = s.cu.gx ∧
    (finishSample p b s).cu.gy = s.cu.gy ∧ (finishSample p b s).cu.wheel = s.cu.wheel ∧
    (finishSample p b s).cu.map = s.cu.map ∧ (finishSample p b s).cu.pos = s.cu.pos ∧
    (finishSample p b s).cu.edge = s.cu.edge ∧ (finishSample p b s).cu.inRange = s.cu.inRange ∧
    (finishSample p b s).cu.ring = s.cu.ring ∧ (finishSample p b s).cu.capture = s.cu.capture ∧
    (finishSample p b s).se.search = s.se.search ∧ (finishSample p b s).se.result = s.se.result ∧
    (finishSample p b s).se.identity = s.se.identity ∧ (finishSample p b s).se.snap = s.se.snap ∧
    (finishSample p b s).se.grid = s.se.grid ∧ (finishSample p b s).se.dirs = s.se.dirs ∧
    (finishSample p b s).se.mode = s.se.mode ∧ (finishSample p b s).comp.staged = s.comp.staged ∧
    (finishSample p b s).comp.serving = s.comp.serving ∧ (finishSample p b s).comp.entered = s.comp.entered ∧
    (finishSample p b s).comp.style = s.comp.style ∧ (finishSample p b s).flt.last = s.flt.last ∧
    (finishSample p b s).flt.seq = s.flt.seq ∧ (finishSample p b s).flt.stopCause = s.flt.stopCause ∧
    (finishSample p b s).flt.latch = s.flt.latch ∧ (finishSample p b s).flt.responses = s.flt.responses ∧
    (finishSample p b s).flt.watches = s.flt.watches ∧ (finishSample p b s).flt.locates = s.flt.locates := by
  unfold finishSample; dsimp only; simp

@[simp] theorem tabletIn_keeps (w : Word) :
    (tabletIn w s).cu.source = s.cu.source ∧ (tabletIn w s).cu.ox = s.cu.ox ∧ (tabletIn w s).cu.oy = s.cu.oy ∧
    (tabletIn w s).cu.gx = s.cu.gx ∧ (tabletIn w s).cu.gy = s.cu.gy ∧ (tabletIn w s).cu.wheel = s.cu.wheel ∧
    (tabletIn w s).cu.map = s.cu.map ∧ (tabletIn w s).cu.prev = s.cu.prev ∧ (tabletIn w s).cu.ring = s.cu.ring ∧
    (tabletIn w s).cu.capture = s.cu.capture ∧ (tabletIn w s).pane.mask = s.pane.mask ∧
    (tabletIn w s).pane.resultLatch = s.pane.resultLatch ∧ (tabletIn w s).pane.commitLatch = s.pane.commitLatch ∧
    (tabletIn w s).pane.peekLatch = s.pane.peekLatch ∧ (tabletIn w s).pane.peek = s.pane.peek ∧
    (tabletIn w s).se.presses = s.se.presses ∧ (tabletIn w s).se.search = s.se.search ∧
    (tabletIn w s).se.identity = s.se.identity ∧ (tabletIn w s).se.snap = s.se.snap ∧
    (tabletIn w s).se.grid = s.se.grid ∧ (tabletIn w s).se.dirs = s.se.dirs ∧ (tabletIn w s).se.mode = s.se.mode ∧
    (tabletIn w s).se.result.point = s.se.result.point ∧ (tabletIn w s).comp.staged = s.comp.staged ∧
    (tabletIn w s).comp.serving = s.comp.serving ∧ (tabletIn w s).comp.entered = s.comp.entered ∧
    (tabletIn w s).comp.style = s.comp.style := by
  unfold tabletIn; dsimp only; simp

@[simp] theorem tabletOut_keeps :
    (tabletOut s).cu.source = s.cu.source ∧ (tabletOut s).cu.ox = s.cu.ox ∧ (tabletOut s).cu.oy = s.cu.oy ∧
    (tabletOut s).cu.gx = s.cu.gx ∧ (tabletOut s).cu.gy = s.cu.gy ∧ (tabletOut s).cu.wheel = s.cu.wheel ∧
    (tabletOut s).cu.map = s.cu.map ∧ (tabletOut s).cu.pos = s.cu.pos ∧ (tabletOut s).cu.edge = s.cu.edge ∧
    (tabletOut s).cu.ring = s.cu.ring ∧ (tabletOut s).cu.capture = s.cu.capture ∧
    (tabletOut s).pane.mask = s.pane.mask ∧ (tabletOut s).pane.resultLatch = s.pane.resultLatch ∧
    (tabletOut s).pane.commitLatch = s.pane.commitLatch ∧ (tabletOut s).pane.peekLatch = s.pane.peekLatch ∧
    (tabletOut s).pane.peek = s.pane.peek ∧ (tabletOut s).se.presses = s.se.presses ∧
    (tabletOut s).se.search = s.se.search ∧ (tabletOut s).se.identity = s.se.identity ∧
    (tabletOut s).se.snap = s.se.snap ∧ (tabletOut s).se.grid = s.se.grid ∧ (tabletOut s).se.dirs = s.se.dirs ∧
    (tabletOut s).se.mode = s.se.mode ∧ (tabletOut s).se.result.point = s.se.result.point ∧
    (tabletOut s).comp.staged = s.comp.staged ∧ (tabletOut s).comp.serving = s.comp.serving ∧
    (tabletOut s).comp.entered = s.comp.entered ∧ (tabletOut s).comp.style = s.comp.style := by
  unfold tabletOut; simp

@[simp] theorem wheelsIn_keeps (w : Word) :
    (wheelsIn w s).cu.source = s.cu.source ∧ (wheelsIn w s).cu.ox = s.cu.ox ∧ (wheelsIn w s).cu.oy = s.cu.oy ∧
    (wheelsIn w s).cu.gx = s.cu.gx ∧ (wheelsIn w s).cu.gy = s.cu.gy ∧ (wheelsIn w s).cu.wheel = s.cu.wheel ∧
    (wheelsIn w s).cu.map = s.cu.map ∧ (wheelsIn w s).cu.prev = s.cu.prev ∧ (wheelsIn w s).cu.ring = s.cu.ring ∧
    (wheelsIn w s).cu.capture = s.cu.capture ∧ (wheelsIn w s).pane.mask = s.pane.mask ∧
    (wheelsIn w s).pane.resultLatch = s.pane.resultLatch ∧ (wheelsIn w s).pane.commitLatch = s.pane.commitLatch ∧
    (wheelsIn w s).pane.peekLatch = s.pane.peekLatch ∧ (wheelsIn w s).pane.peek = s.pane.peek ∧
    (wheelsIn w s).se.presses = s.se.presses ∧ (wheelsIn w s).se.search = s.se.search ∧
    (wheelsIn w s).se.identity = s.se.identity ∧ (wheelsIn w s).se.snap = s.se.snap ∧
    (wheelsIn w s).se.grid = s.se.grid ∧ (wheelsIn w s).se.dirs = s.se.dirs ∧ (wheelsIn w s).se.mode = s.se.mode ∧
    (wheelsIn w s).se.result.point = s.se.result.point ∧ (wheelsIn w s).comp.staged = s.comp.staged ∧
    (wheelsIn w s).comp.serving = s.comp.serving ∧ (wheelsIn w s).comp.entered = s.comp.entered ∧
    (wheelsIn w s).comp.style = s.comp.style := by
  unfold wheelsIn; simp

@[simp] theorem acceptSample_keeps (p : Word × Word) (w : Word) :
    (acceptSample p w s).cu.source = s.cu.source ∧ (acceptSample p w s).cu.ox = s.cu.ox ∧
    (acceptSample p w s).cu.oy = s.cu.oy ∧ (acceptSample p w s).cu.gx = s.cu.gx ∧
    (acceptSample p w s).cu.gy = s.cu.gy ∧ (acceptSample p w s).cu.wheel = s.cu.wheel ∧
    (acceptSample p w s).cu.map = s.cu.map ∧ (acceptSample p w s).cu.ring = s.cu.ring ∧
    (acceptSample p w s).cu.capture = s.cu.capture ∧ (acceptSample p w s).pane.mask = s.pane.mask ∧
    (acceptSample p w s).pane.resultLatch = s.pane.resultLatch ∧
    (acceptSample p w s).pane.commitLatch = s.pane.commitLatch ∧
    (acceptSample p w s).pane.peekLatch = s.pane.peekLatch ∧ (acceptSample p w s).pane.peek = s.pane.peek ∧
    (acceptSample p w s).se.search = s.se.search ∧ (acceptSample p w s).se.identity = s.se.identity ∧
    (acceptSample p w s).se.snap = s.se.snap ∧ (acceptSample p w s).se.grid = s.se.grid ∧
    (acceptSample p w s).se.dirs = s.se.dirs ∧ (acceptSample p w s).se.mode = s.se.mode ∧
    (acceptSample p w s).se.result.point = s.se.result.point ∧ (acceptSample p w s).comp.staged = s.comp.staged ∧
    (acceptSample p w s).comp.serving = s.comp.serving ∧ (acceptSample p w s).comp.entered = s.comp.entered ∧
    (acceptSample p w s).comp.style = s.comp.style ∧ (acceptSample p w s).flt.last = s.flt.last ∧
    (acceptSample p w s).flt.seq = s.flt.seq ∧ (acceptSample p w s).flt.stopCause = s.flt.stopCause ∧
    (acceptSample p w s).flt.latch = s.flt.latch ∧ (acceptSample p w s).flt.responses = s.flt.responses ∧
    (acceptSample p w s).flt.watches = s.flt.watches ∧ (acceptSample p w s).flt.locates = s.flt.locates := by
  unfold acceptSample; (repeat' split) <;> simp

@[simp] theorem takeSample_keeps (n i : Nat) (w : Word) :
    (takeSample n i w s).cu.source = s.cu.source ∧ (takeSample n i w s).cu.ox = s.cu.ox ∧
    (takeSample n i w s).cu.oy = s.cu.oy ∧ (takeSample n i w s).cu.gx = s.cu.gx ∧
    (takeSample n i w s).cu.gy = s.cu.gy ∧ (takeSample n i w s).cu.wheel = s.cu.wheel ∧
    (takeSample n i w s).cu.map = s.cu.map ∧ (takeSample n i w s).cu.capture = s.cu.capture ∧
    (takeSample n i w s).pane.mask = s.pane.mask ∧ (takeSample n i w s).pane.resultLatch = s.pane.resultLatch ∧
    (takeSample n i w s).pane.commitLatch = s.pane.commitLatch ∧
    (takeSample n i w s).pane.peekLatch = s.pane.peekLatch ∧ (takeSample n i w s).pane.peek = s.pane.peek ∧
    (takeSample n i w s).se.search = s.se.search ∧ (takeSample n i w s).se.identity = s.se.identity ∧
    (takeSample n i w s).se.snap = s.se.snap ∧ (takeSample n i w s).se.grid = s.se.grid ∧
    (takeSample n i w s).se.dirs = s.se.dirs ∧ (takeSample n i w s).se.mode = s.se.mode ∧
    (takeSample n i w s).se.result.point = s.se.result.point ∧ (takeSample n i w s).comp.staged = s.comp.staged ∧
    (takeSample n i w s).comp.serving = s.comp.serving ∧ (takeSample n i w s).comp.entered = s.comp.entered ∧
    (takeSample n i w s).comp.style = s.comp.style ∧ (takeSample n i w s).flt.last = s.flt.last ∧
    (takeSample n i w s).flt.seq = s.flt.seq ∧ (takeSample n i w s).flt.stopCause = s.flt.stopCause ∧
    (takeSample n i w s).flt.latch = s.flt.latch ∧ (takeSample n i w s).flt.responses = s.flt.responses ∧
    (takeSample n i w s).flt.watches = s.flt.watches ∧ (takeSample n i w s).flt.locates = s.flt.locates := by
  unfold takeSample; dsimp only; (repeat' split) <;> simp

@[simp] theorem mailboxWrite_keeps (n i k : Nat) (w : Word) :
    (mailboxWrite n i k w s).cu.source = s.cu.source ∧ (mailboxWrite n i k w s).cu.ox = s.cu.ox ∧
    (mailboxWrite n i k w s).cu.oy = s.cu.oy ∧ (mailboxWrite n i k w s).cu.gx = s.cu.gx ∧
    (mailboxWrite n i k w s).cu.gy = s.cu.gy ∧ (mailboxWrite n i k w s).cu.wheel = s.cu.wheel ∧
    (mailboxWrite n i k w s).cu.map = s.cu.map ∧ (mailboxWrite n i k w s).pane.mask = s.pane.mask ∧
    (mailboxWrite n i k w s).pane.resultLatch = s.pane.resultLatch ∧
    (mailboxWrite n i k w s).pane.commitLatch = s.pane.commitLatch ∧
    (mailboxWrite n i k w s).pane.peekLatch = s.pane.peekLatch ∧ (mailboxWrite n i k w s).pane.peek = s.pane.peek ∧
    (mailboxWrite n i k w s).se.search = s.se.search ∧ (mailboxWrite n i k w s).se.identity = s.se.identity ∧
    (mailboxWrite n i k w s).se.snap = s.se.snap ∧ (mailboxWrite n i k w s).se.grid = s.se.grid ∧
    (mailboxWrite n i k w s).se.dirs = s.se.dirs ∧ (mailboxWrite n i k w s).se.mode = s.se.mode ∧
    (mailboxWrite n i k w s).se.result.point = s.se.result.point ∧
    (mailboxWrite n i k w s).comp.staged = s.comp.staged ∧ (mailboxWrite n i k w s).comp.serving = s.comp.serving ∧
    (mailboxWrite n i k w s).comp.entered = s.comp.entered ∧ (mailboxWrite n i k w s).comp.style = s.comp.style ∧
    (mailboxWrite n i k w s).flt.last = s.flt.last ∧ (mailboxWrite n i k w s).flt.seq = s.flt.seq ∧
    (mailboxWrite n i k w s).flt.stopCause = s.flt.stopCause ∧ (mailboxWrite n i k w s).flt.latch = s.flt.latch ∧
    (mailboxWrite n i k w s).flt.responses = s.flt.responses ∧ (mailboxWrite n i k w s).flt.watches = s.flt.watches ∧
    (mailboxWrite n i k w s).flt.locates = s.flt.locates := by
  unfold mailboxWrite; (repeat' split) <;> simp

@[simp] theorem handMailbox_keeps (a : Addr) (w : Word) :
    (handMailbox a w s).cu.source = s.cu.source ∧ (handMailbox a w s).cu.ox = s.cu.ox ∧
    (handMailbox a w s).cu.oy = s.cu.oy ∧ (handMailbox a w s).cu.gx = s.cu.gx ∧ (handMailbox a w s).cu.gy = s.cu.gy ∧
    (handMailbox a w s).cu.wheel = s.cu.wheel ∧ (handMailbox a w s).cu.map = s.cu.map ∧
    (handMailbox a w s).pane.mask = s.pane.mask ∧ (handMailbox a w s).pane.resultLatch = s.pane.resultLatch ∧
    (handMailbox a w s).pane.commitLatch = s.pane.commitLatch ∧
    (handMailbox a w s).pane.peekLatch = s.pane.peekLatch ∧ (handMailbox a w s).pane.peek = s.pane.peek ∧
    (handMailbox a w s).se.search = s.se.search ∧ (handMailbox a w s).se.identity = s.se.identity ∧
    (handMailbox a w s).se.snap = s.se.snap ∧ (handMailbox a w s).se.grid = s.se.grid ∧
    (handMailbox a w s).se.dirs = s.se.dirs ∧ (handMailbox a w s).se.mode = s.se.mode ∧
    (handMailbox a w s).se.result.point = s.se.result.point ∧ (handMailbox a w s).comp.staged = s.comp.staged ∧
    (handMailbox a w s).comp.serving = s.comp.serving ∧ (handMailbox a w s).comp.entered = s.comp.entered ∧
    (handMailbox a w s).comp.style = s.comp.style ∧ (handMailbox a w s).flt.last = s.flt.last ∧
    (handMailbox a w s).flt.seq = s.flt.seq ∧ (handMailbox a w s).flt.stopCause = s.flt.stopCause ∧
    (handMailbox a w s).flt.latch = s.flt.latch ∧ (handMailbox a w s).flt.responses = s.flt.responses ∧
    (handMailbox a w s).flt.watches = s.flt.watches ∧ (handMailbox a w s).flt.locates = s.flt.locates := by
  unfold handMailbox; (repeat' split) <;> simp

@[simp] theorem writeShadow_keeps (i k : Nat) (w : Word) :
    (writeShadow i k w s).dir.queue = s.dir.queue ∧ (writeShadow i k w s).dir.progress = s.dir.progress ∧
    (writeShadow i k w s).dir.continuation = s.dir.continuation := by
  unfold writeShadow; dsimp only; (repeat' split) <;> simp

@[simp] theorem postSlot_keeps (i : BitVec 4) (w : Word) :
    (postSlot i w s).dir.shadow = s.dir.shadow ∧ (postSlot i w s).dir.progress = s.dir.progress ∧
    (postSlot i w s).dir.continuation = s.dir.continuation ∧ (postSlot i w s).flt.last = s.flt.last ∧
    (postSlot i w s).flt.seq = s.flt.seq ∧ (postSlot i w s).flt.stopCause = s.flt.stopCause ∧
    (postSlot i w s).flt.latch = s.flt.latch ∧ (postSlot i w s).flt.responses = s.flt.responses ∧
    (postSlot i w s).flt.watches = s.flt.watches ∧ (postSlot i w s).flt.locates = s.flt.locates := by
  unfold postSlot; dsimp only; (repeat' split) <;> simp

@[simp] theorem handStrap_keeps (o : Nat) (w : Word) :
    (handStrap o w s).dir.progress = s.dir.progress ∧ (handStrap o w s).dir.continuation = s.dir.continuation ∧
    (handStrap o w s).flt.last = s.flt.last ∧ (handStrap o w s).flt.seq = s.flt.seq ∧
    (handStrap o w s).flt.stopCause = s.flt.stopCause ∧ (handStrap o w s).flt.latch = s.flt.latch ∧
    (handStrap o w s).flt.responses = s.flt.responses ∧ (handStrap o w s).flt.watches = s.flt.watches ∧
    (handStrap o w s).flt.locates = s.flt.locates := by
  unfold handStrap; (repeat' split) <;> simp

@[simp] theorem handWrite_keeps (a : Addr) (w : Word) :
    (handWrite a w s).cu.source = s.cu.source ∧ (handWrite a w s).cu.ox = s.cu.ox ∧
    (handWrite a w s).cu.oy = s.cu.oy ∧ (handWrite a w s).cu.gx = s.cu.gx ∧ (handWrite a w s).cu.gy = s.cu.gy ∧
    (handWrite a w s).cu.wheel = s.cu.wheel ∧ (handWrite a w s).cu.map = s.cu.map ∧
    (handWrite a w s).pane.mask = s.pane.mask ∧ (handWrite a w s).pane.resultLatch = s.pane.resultLatch ∧
    (handWrite a w s).pane.commitLatch = s.pane.commitLatch ∧ (handWrite a w s).pane.peekLatch = s.pane.peekLatch ∧
    (handWrite a w s).pane.peek = s.pane.peek ∧ (handWrite a w s).se.search = s.se.search ∧
    (handWrite a w s).se.identity = s.se.identity ∧ (handWrite a w s).se.snap = s.se.snap ∧
    (handWrite a w s).se.grid = s.se.grid ∧ (handWrite a w s).se.dirs = s.se.dirs ∧
    (handWrite a w s).se.mode = s.se.mode ∧ (handWrite a w s).se.result.point = s.se.result.point ∧
    (handWrite a w s).comp.staged = s.comp.staged ∧ (handWrite a w s).comp.serving = s.comp.serving ∧
    (handWrite a w s).comp.entered = s.comp.entered ∧ (handWrite a w s).comp.style = s.comp.style ∧
    (handWrite a w s).flt.last = s.flt.last ∧ (handWrite a w s).flt.seq = s.flt.seq ∧
    (handWrite a w s).flt.stopCause = s.flt.stopCause ∧ (handWrite a w s).flt.latch = s.flt.latch ∧
    (handWrite a w s).flt.responses = s.flt.responses ∧ (handWrite a w s).flt.watches = s.flt.watches ∧
    (handWrite a w s).flt.locates = s.flt.locates ∧ (handWrite a w s).dir.progress = s.dir.progress ∧
    (handWrite a w s).dir.continuation = s.dir.continuation := by
  unfold handWrite; (repeat' split) <;> simp

@[simp] theorem takeWrite_keeps (a : Addr) (w : Word) :
    (takeWrite a w s).cu.source = s.cu.source ∧ (takeWrite a w s).cu.ox = s.cu.ox ∧
    (takeWrite a w s).cu.oy = s.cu.oy ∧ (takeWrite a w s).cu.gx = s.cu.gx ∧ (takeWrite a w s).cu.gy = s.cu.gy ∧
    (takeWrite a w s).cu.wheel = s.cu.wheel ∧ (takeWrite a w s).cu.map = s.cu.map ∧
    (takeWrite a w s).pane.mask = s.pane.mask ∧ (takeWrite a w s).pane.resultLatch = s.pane.resultLatch ∧
    (takeWrite a w s).pane.commitLatch = s.pane.commitLatch ∧ (takeWrite a w s).pane.peekLatch = s.pane.peekLatch ∧
    (takeWrite a w s).pane.peek = s.pane.peek ∧ (takeWrite a w s).se.search = s.se.search ∧
    (takeWrite a w s).se.identity = s.se.identity ∧ (takeWrite a w s).se.snap = s.se.snap ∧
    (takeWrite a w s).se.grid = s.se.grid ∧ (takeWrite a w s).se.dirs = s.se.dirs ∧
    (takeWrite a w s).se.mode = s.se.mode ∧ (takeWrite a w s).se.result.point = s.se.result.point ∧
    (takeWrite a w s).comp.staged = s.comp.staged ∧ (takeWrite a w s).comp.serving = s.comp.serving ∧
    (takeWrite a w s).comp.entered = s.comp.entered ∧ (takeWrite a w s).comp.style = s.comp.style ∧
    (takeWrite a w s).flt.last = s.flt.last ∧ (takeWrite a w s).flt.seq = s.flt.seq ∧
    (takeWrite a w s).flt.stopCause = s.flt.stopCause ∧ (takeWrite a w s).flt.latch = s.flt.latch ∧
    (takeWrite a w s).flt.responses = s.flt.responses ∧ (takeWrite a w s).flt.watches = s.flt.watches ∧
    (takeWrite a w s).flt.locates = s.flt.locates ∧ (takeWrite a w s).dir.progress = s.dir.progress ∧
    (takeWrite a w s).dir.continuation = s.dir.continuation := by
  unfold takeWrite; simp

@[simp] theorem writeStrap_keeps (o : Nat) (w : Word) :
    (writeStrap o w s).cu.source = s.cu.source ∧ (writeStrap o w s).cu.ox = s.cu.ox ∧
    (writeStrap o w s).cu.oy = s.cu.oy ∧ (writeStrap o w s).cu.gx = s.cu.gx ∧ (writeStrap o w s).cu.gy = s.cu.gy ∧
    (writeStrap o w s).cu.wheel = s.cu.wheel ∧ (writeStrap o w s).cu.map = s.cu.map ∧
    (writeStrap o w s).pane.mask = s.pane.mask ∧ (writeStrap o w s).pane.resultLatch = s.pane.resultLatch ∧
    (writeStrap o w s).pane.commitLatch = s.pane.commitLatch ∧ (writeStrap o w s).pane.peekLatch = s.pane.peekLatch ∧
    (writeStrap o w s).pane.peek = s.pane.peek ∧ (writeStrap o w s).se.search = s.se.search ∧
    (writeStrap o w s).se.identity = s.se.identity ∧ (writeStrap o w s).se.snap = s.se.snap ∧
    (writeStrap o w s).se.grid = s.se.grid ∧ (writeStrap o w s).se.dirs = s.se.dirs ∧
    (writeStrap o w s).se.mode = s.se.mode ∧ (writeStrap o w s).se.result.point = s.se.result.point ∧
    (writeStrap o w s).comp.staged = s.comp.staged ∧ (writeStrap o w s).comp.serving = s.comp.serving ∧
    (writeStrap o w s).comp.entered = s.comp.entered ∧ (writeStrap o w s).comp.style = s.comp.style ∧
    (writeStrap o w s).flt.last = s.flt.last ∧ (writeStrap o w s).flt.seq = s.flt.seq ∧
    (writeStrap o w s).flt.stopCause = s.flt.stopCause ∧ (writeStrap o w s).flt.latch = s.flt.latch ∧
    (writeStrap o w s).flt.responses = s.flt.responses ∧ (writeStrap o w s).flt.watches = s.flt.watches ∧
    (writeStrap o w s).flt.locates = s.flt.locates ∧ (writeStrap o w s).dir.progress = s.dir.progress ∧
    (writeStrap o w s).dir.continuation = s.dir.continuation := by
  unfold writeStrap; (repeat' split) <;> simp

@[simp] theorem writeMailbox_keeps (i k : Nat) (w : Word) :
    (writeMailbox i k w s).cu.source = s.cu.source ∧ (writeMailbox i k w s).cu.ox = s.cu.ox ∧
    (writeMailbox i k w s).cu.oy = s.cu.oy ∧ (writeMailbox i k w s).cu.gx = s.cu.gx ∧
    (writeMailbox i k w s).cu.gy = s.cu.gy ∧ (writeMailbox i k w s).cu.wheel = s.cu.wheel ∧
    (writeMailbox i k w s).cu.map = s.cu.map ∧ (writeMailbox i k w s).pane.mask = s.pane.mask ∧
    (writeMailbox i k w s).pane.resultLatch = s.pane.resultLatch ∧
    (writeMailbox i k w s).pane.commitLatch = s.pane.commitLatch ∧
    (writeMailbox i k w s).pane.peekLatch = s.pane.peekLatch ∧ (writeMailbox i k w s).pane.peek = s.pane.peek ∧
    (writeMailbox i k w s).se.search = s.se.search ∧ (writeMailbox i k w s).se.identity = s.se.identity ∧
    (writeMailbox i k w s).se.snap = s.se.snap ∧ (writeMailbox i k w s).se.grid = s.se.grid ∧
    (writeMailbox i k w s).se.dirs = s.se.dirs ∧ (writeMailbox i k w s).se.mode = s.se.mode ∧
    (writeMailbox i k w s).se.result.point = s.se.result.point ∧ (writeMailbox i k w s).comp.staged = s.comp.staged ∧
    (writeMailbox i k w s).comp.serving = s.comp.serving ∧ (writeMailbox i k w s).comp.entered = s.comp.entered ∧
    (writeMailbox i k w s).comp.style = s.comp.style ∧ (writeMailbox i k w s).flt.last = s.flt.last ∧
    (writeMailbox i k w s).flt.seq = s.flt.seq ∧ (writeMailbox i k w s).flt.stopCause = s.flt.stopCause ∧
    (writeMailbox i k w s).flt.latch = s.flt.latch ∧ (writeMailbox i k w s).flt.responses = s.flt.responses ∧
    (writeMailbox i k w s).flt.watches = s.flt.watches ∧ (writeMailbox i k w s).flt.locates = s.flt.locates ∧
    (writeMailbox i k w s).dir.progress = s.dir.progress ∧
    (writeMailbox i k w s).dir.continuation = s.dir.continuation := by
  unfold writeMailbox; (repeat' split) <;> simp

@[simp] theorem pressAction_keeps (b : Fin 4) (a : PressAction) (r : Result) :
    (pressAction b a r s).band.shape = s.band.shape ∧ (pressAction b a r s).band.period = s.band.period ∧
    (pressAction b a r s).band.onLen = s.band.onLen ∧ (pressAction b a r s).band.march = s.band.march ∧
    (pressAction b a r s).pane.mask = s.pane.mask ∧ (pressAction b a r s).pane.resultLatch = s.pane.resultLatch ∧
    (pressAction b a r s).pane.commitLatch = s.pane.commitLatch ∧
    (pressAction b a r s).pane.peekLatch = s.pane.peekLatch ∧ (pressAction b a r s).pane.peek = s.pane.peek ∧
    (pressAction b a r s).flt.last = s.flt.last ∧ (pressAction b a r s).flt.seq = s.flt.seq ∧
    (pressAction b a r s).flt.stopCause = s.flt.stopCause ∧ (pressAction b a r s).flt.latch = s.flt.latch ∧
    (pressAction b a r s).flt.responses = s.flt.responses ∧ (pressAction b a r s).flt.watches = s.flt.watches ∧
    (pressAction b a r s).flt.locates = s.flt.locates := by
  unfold pressAction; dsimp only; (repeat' split) <;> simp

@[simp] theorem pressButton_keeps (m : BitVec 4) (r : Result) (b : Fin 4) :
    (pressButton m r s b).band.shape = s.band.shape ∧ (pressButton m r s b).band.period = s.band.period ∧
    (pressButton m r s b).band.onLen = s.band.onLen ∧ (pressButton m r s b).band.march = s.band.march ∧
    (pressButton m r s b).pane.mask = s.pane.mask ∧ (pressButton m r s b).pane.resultLatch = s.pane.resultLatch ∧
    (pressButton m r s b).pane.commitLatch = s.pane.commitLatch ∧
    (pressButton m r s b).pane.peekLatch = s.pane.peekLatch ∧ (pressButton m r s b).pane.peek = s.pane.peek ∧
    (pressButton m r s b).flt.last = s.flt.last ∧ (pressButton m r s b).flt.seq = s.flt.seq ∧
    (pressButton m r s b).flt.stopCause = s.flt.stopCause ∧ (pressButton m r s b).flt.latch = s.flt.latch ∧
    (pressButton m r s b).flt.responses = s.flt.responses ∧ (pressButton m r s b).flt.watches = s.flt.watches ∧
    (pressButton m r s b).flt.locates = s.flt.locates := by
  unfold pressButton; (repeat' split) <;> simp

@[simp] theorem pressActions_keeps (m : BitVec 4) (r : Result) :
    (pressActions m r s).band.shape = s.band.shape ∧ (pressActions m r s).band.period = s.band.period ∧
    (pressActions m r s).band.onLen = s.band.onLen ∧ (pressActions m r s).band.march = s.band.march ∧
    (pressActions m r s).pane.mask = s.pane.mask ∧ (pressActions m r s).pane.resultLatch = s.pane.resultLatch ∧
    (pressActions m r s).pane.commitLatch = s.pane.commitLatch ∧
    (pressActions m r s).pane.peekLatch = s.pane.peekLatch ∧ (pressActions m r s).pane.peek = s.pane.peek ∧
    (pressActions m r s).flt.last = s.flt.last ∧ (pressActions m r s).flt.seq = s.flt.seq ∧
    (pressActions m r s).flt.stopCause = s.flt.stopCause ∧ (pressActions m r s).flt.latch = s.flt.latch ∧
    (pressActions m r s).flt.responses = s.flt.responses ∧ (pressActions m r s).flt.watches = s.flt.watches ∧
    (pressActions m r s).flt.locates = s.flt.locates := by
  simp [pressActions]

@[simp] theorem publish_keeps (q : Search) :
    (publish q s).se.presses = s.se.presses ∧ (publish q s).se.motion = s.se.motion ∧
    (publish q s).se.search = s.se.search ∧ (publish q s).se.snap = s.se.snap ∧ (publish q s).se.grid = s.se.grid ∧
    (publish q s).se.dirs = s.se.dirs ∧ (publish q s).se.mode = s.se.mode ∧ (publish q s).pane.mask = s.pane.mask ∧
    (publish q s).pane.resultLatch = s.pane.resultLatch ∧ (publish q s).pane.commitLatch = s.pane.commitLatch ∧
    (publish q s).pane.peekLatch = s.pane.peekLatch ∧ (publish q s).pane.peek = s.pane.peek := by
  unfold publish; dsimp only; simp

@[simp] theorem applyPress_keeps (q : Search) :
    (applyPress q s).band.shape = s.band.shape ∧ (applyPress q s).band.period = s.band.period ∧
    (applyPress q s).band.onLen = s.band.onLen ∧ (applyPress q s).band.march = s.band.march ∧
    (applyPress q s).pane.mask = s.pane.mask ∧ (applyPress q s).pane.resultLatch = s.pane.resultLatch ∧
    (applyPress q s).pane.commitLatch = s.pane.commitLatch ∧ (applyPress q s).pane.peekLatch = s.pane.peekLatch ∧
    (applyPress q s).pane.peek = s.pane.peek ∧ (applyPress q s).flt.last = s.flt.last ∧
    (applyPress q s).flt.seq = s.flt.seq ∧ (applyPress q s).flt.stopCause = s.flt.stopCause ∧
    (applyPress q s).flt.latch = s.flt.latch ∧ (applyPress q s).flt.responses = s.flt.responses ∧
    (applyPress q s).flt.watches = s.flt.watches ∧ (applyPress q s).flt.locates = s.flt.locates := by
  unfold applyPress; (repeat' split) <;> simp

@[simp] theorem publishAndApply_keeps (q : Search) :
    (publishAndApply q s).band.shape = s.band.shape ∧ (publishAndApply q s).band.period = s.band.period ∧
    (publishAndApply q s).band.onLen = s.band.onLen ∧ (publishAndApply q s).band.march = s.band.march ∧
    (publishAndApply q s).pane.mask = s.pane.mask ∧ (publishAndApply q s).pane.resultLatch = s.pane.resultLatch ∧
    (publishAndApply q s).pane.commitLatch = s.pane.commitLatch ∧ (publishAndApply q s).flt.last = s.flt.last ∧
    (publishAndApply q s).flt.seq = s.flt.seq ∧ (publishAndApply q s).flt.stopCause = s.flt.stopCause ∧
    (publishAndApply q s).flt.latch = s.flt.latch ∧ (publishAndApply q s).flt.responses = s.flt.responses ∧
    (publishAndApply q s).flt.watches = s.flt.watches ∧ (publishAndApply q s).flt.locates = s.flt.locates ∧
    (publishAndApply q s).se.presses = s.se.presses ∧ (publishAndApply q s).se.search = s.se.search ∧
    (publishAndApply q s).se.snap = s.se.snap ∧ (publishAndApply q s).se.grid = s.se.grid ∧
    (publishAndApply q s).se.dirs = s.se.dirs ∧ (publishAndApply q s).se.mode = s.se.mode ∧
    (publishAndApply q s).comp.staged = s.comp.staged ∧ (publishAndApply q s).comp.serving = s.comp.serving ∧
    (publishAndApply q s).comp.entered = s.comp.entered ∧ (publishAndApply q s).comp.style = s.comp.style := by
  unfold publishAndApply; dsimp only; (repeat' split) <;> simp

@[simp] theorem noteRefusal_keeps (e : DirEntry) (r : Option Reason) :
    (noteRefusal e r s).pane.mask = s.pane.mask ∧ (noteRefusal e r s).pane.resultLatch = s.pane.resultLatch ∧
    (noteRefusal e r s).pane.commitLatch = s.pane.commitLatch ∧
    (noteRefusal e r s).pane.peekLatch = s.pane.peekLatch ∧ (noteRefusal e r s).pane.peek = s.pane.peek ∧
    (noteRefusal e r s).flt.last = s.flt.last ∧ (noteRefusal e r s).flt.seq = s.flt.seq ∧
    (noteRefusal e r s).flt.stopCause = s.flt.stopCause ∧ (noteRefusal e r s).flt.latch = s.flt.latch ∧
    (noteRefusal e r s).flt.responses = s.flt.responses ∧ (noteRefusal e r s).flt.watches = s.flt.watches ∧
    (noteRefusal e r s).flt.locates = s.flt.locates := by
  unfold noteRefusal; (repeat' split) <;> simp

@[simp] theorem leaveQueue_keeps :
    (leaveQueue s).dir.shadow = s.dir.shadow ∧ (leaveQueue s).dir.progress = s.dir.progress ∧
    (leaveQueue s).dir.continuation = s.dir.continuation ∧ (leaveQueue s).pane.mask = s.pane.mask ∧
    (leaveQueue s).pane.resultLatch = s.pane.resultLatch ∧ (leaveQueue s).pane.commitLatch = s.pane.commitLatch ∧
    (leaveQueue s).pane.peekLatch = s.pane.peekLatch ∧ (leaveQueue s).pane.peek = s.pane.peek := by
  unfold leaveQueue; dsimp only; (repeat' split) <;> simp

@[simp] theorem endPass_keeps (i : PassInputs) :
    (endPass i s).comp.serving = s.comp.serving ∧ (endPass i s).comp.entered = s.comp.entered ∧
    (endPass i s).comp.style = s.comp.style := by
  unfold endPass; dsimp only; (repeat' split) <;> simp

@[simp] theorem closePeekLatch_keeps :
    (closePeekLatch s).pane.flags = s.pane.flags ∧ (closePeekLatch s).pane.mask = s.pane.mask ∧
    (closePeekLatch s).pane.resultLatch = s.pane.resultLatch ∧
    (closePeekLatch s).pane.commitLatch = s.pane.commitLatch := by
  unfold closePeekLatch; dsimp only; (repeat' split) <;> simp

end Sys2Proof.Machine
end

