-- ==== Sys2Proof/Laws/Effects.lean ====
section
/-! SUPPORT. What a stop, RESTART and the effect of each directive leave unchanged: one lemma per operation. -/

namespace Sys2Proof.Machine

variable (s : State)

@[simp] theorem blinkAfter_keeps (e : DirEntry) (p : Patterns) :
    (blinkAfter e p).phase = p.phase ∧ (blinkAfter e p).frozen = p.frozen := by
  unfold blinkAfter Patterns.preset Patterns.keepCounts Patterns.setCascade blinkSettings
  dsimp only; (repeat' split) <;> simp

@[simp] theorem bandWithAnchor_keeps (p : Pt) (l : Bool) (b : Band) :
    (b.withAnchor p l).trail = b.trail ∧ (b.withAnchor p l).shape = b.shape ∧ (b.withAnchor p l).period = b.period ∧
    (b.withAnchor p l).onLen = b.onLen ∧ (b.withAnchor p l).march = b.march ∧
    (b.withAnchor p l).commit = b.commit ∧ (b.withAnchor p l).anchor = some ⟨p, l⟩ := by
  simp [Band.withAnchor]

@[simp] theorem bandAppend_keeps (p : Pt) (b : Band) :
    (b.append p).trail = b.trail ++ [p] ∧ (b.append p).shape = b.shape ∧ (b.append p).period = b.period ∧
    (b.append p).onLen = b.onLen ∧ (b.append p).march = b.march ∧ (b.append p).commit = b.commit ∧
    (b.append p).anchor = some ⟨p, true⟩ := by
  simp [Band.append]

@[simp] theorem bandDropNewest_keeps (b : Band) :
    b.dropNewest.trail = b.trail.dropLast ∧ b.dropNewest.shape = b.shape ∧ b.dropNewest.period = b.period ∧
    b.dropNewest.onLen = b.onLen ∧ b.dropNewest.march = b.march ∧ b.dropNewest.commit = b.commit := by
  simp [Band.dropNewest]

@[simp] theorem coldReset_frame (b : BitVec 6) :
    (coldReset b s).orderChoices = s.orderChoices ∧ (coldReset b s).pending = s.pending := by
  unfold coldReset enterByStrap enterConfigured enterActive; (repeat' split) <;> simp

@[simp] theorem recordAll_frame :
    (recordAll s).port = s.port ∧ (recordAll s).bus = s.bus ∧ (recordAll s).trk = s.trk ∧
    (recordAll s).hv = s.hv ∧ (recordAll s).se = s.se ∧ (recordAll s).cu = s.cu ∧ (recordAll s).band = s.band ∧
    (recordAll s).comp = s.comp ∧ (recordAll s).pat = s.pat ∧ (recordAll s).dir = s.dir ∧
    (recordAll s).orderChoices = s.orderChoices ∧ (recordAll s).pending = s.pending := by
  have h : ∀ (l : List Raised) (t : State),
      (l.foldl (fun t f => recordFault f t) t).port = t.port ∧ (l.foldl (fun t f => recordFault f t) t).bus = t.bus ∧
      (l.foldl (fun t f => recordFault f t) t).trk = t.trk ∧ (l.foldl (fun t f => recordFault f t) t).hv = t.hv ∧
      (l.foldl (fun t f => recordFault f t) t).se = t.se ∧ (l.foldl (fun t f => recordFault f t) t).cu = t.cu ∧
      (l.foldl (fun t f => recordFault f t) t).band = t.band ∧
      (l.foldl (fun t f => recordFault f t) t).comp = t.comp ∧ (l.foldl (fun t f => recordFault f t) t).pat = t.pat ∧
      (l.foldl (fun t f => recordFault f t) t).dir = t.dir ∧
      (l.foldl (fun t f => recordFault f t) t).orderChoices = t.orderChoices ∧
      (l.foldl (fun t f => recordFault f t) t).pending = t.pending := by
    intro l
    induction l with
    | nil => intro t; simp
    | cons f l ih => intro t; simp [List.foldl_cons, ih]
  simpa [recordAll] using h s.flt.raised s

@[simp] theorem restartReset_frame :
    (restartReset s).bus = s.bus ∧ (restartReset s).orderChoices = s.orderChoices ∧
    (restartReset s).pending = s.pending := by
  unfold restartReset enterConfigured enterActive clearWorking; dsimp only; (repeat' split) <;> simp

@[simp] theorem restartReset_keeps :
    (restartReset s).pat.cascade = s.pat.cascade ∧ (restartReset s).pat.a = s.pat.a ∧
    (restartReset s).pat.b = s.pat.b ∧ (restartReset s).pat.phase = s.pat.phase ∧
    (restartReset s).flt.last = s.flt.last ∧ (restartReset s).flt.seq = s.flt.seq ∧
    (restartReset s).flt.stopCause = s.flt.stopCause ∧ (restartReset s).flt.latch = s.flt.latch ∧
    (restartReset s).flt.responses = s.flt.responses ∧ (restartReset s).flt.watches = s.flt.watches ∧
    (restartReset s).flt.raised = s.flt.raised := by
  unfold restartReset enterConfigured enterActive clearWorking; dsimp only; (repeat' split) <;> simp

@[simp] theorem enterBypass_frame :
    (enterBypass s).bus = s.bus ∧ (enterBypass s).cu = s.cu ∧ (enterBypass s).band = s.band ∧
    (enterBypass s).dir = s.dir ∧ (enterBypass s).orderChoices = s.orderChoices ∧
    (enterBypass s).pending = s.pending := by
  unfold enterBypass; dsimp only; simp

@[simp] theorem enterBypass_keeps :
    (enterBypass s).se.result = s.se.result ∧ (enterBypass s).se.identity = s.se.identity ∧
    (enterBypass s).se.snap = s.se.snap ∧ (enterBypass s).se.grid = s.se.grid ∧ (enterBypass s).se.dirs = s.se.dirs ∧
    (enterBypass s).se.mode = s.se.mode ∧ (enterBypass s).comp.style = s.comp.style ∧
    (enterBypass s).pat.cascade = s.pat.cascade ∧ (enterBypass s).pat.a = s.pat.a ∧ (enterBypass s).pat.b = s.pat.b ∧
    (enterBypass s).pat.phase = s.pat.phase ∧ (enterBypass s).pane.mask = s.pane.mask ∧
    (enterBypass s).pane.resultLatch = s.pane.resultLatch ∧ (enterBypass s).pane.commitLatch = s.pane.commitLatch ∧
    (enterBypass s).pane.peekLatch = s.pane.peekLatch ∧ (enterBypass s).pane.peek = s.pane.peek ∧
    (enterBypass s).flt.last = s.flt.last ∧ (enterBypass s).flt.seq = s.flt.seq ∧
    (enterBypass s).flt.latch = s.flt.latch ∧ (enterBypass s).flt.responses = s.flt.responses ∧
    (enterBypass s).flt.watches = s.flt.watches ∧ (enterBypass s).flt.locates = s.flt.locates ∧
    (enterBypass s).flt.raised = s.flt.raised := by
  unfold enterBypass; dsimp only; simp [Composer.cleared]

@[simp] theorem configureWith_frame (m : RegionMap) :
    (configureWith m s).bus = s.bus ∧ (configureWith m s).band = s.band ∧ (configureWith m s).dir = s.dir ∧
    (configureWith m s).pane = s.pane ∧ (configureWith m s).flt = s.flt ∧
    (configureWith m s).orderChoices = s.orderChoices ∧ (configureWith m s).pending = s.pending := by
  unfold configureWith; dsimp only; simp [Composer.cleared]

@[simp] theorem configureWith_keeps (m : RegionMap) :
    (configureWith m s).trk.expected = s.trk.expected ∧ (configureWith m s).trk.lastWord = s.trk.lastWord ∧
    (configureWith m s).trk.current = s.trk.current ∧ (configureWith m s).trk.origin = s.trk.origin ∧
    (configureWith m s).trk.offset = s.trk.offset ∧ (configureWith m s).trk.attr = s.trk.attr ∧
    (configureWith m s).trk.frames = s.trk.frames ∧ (configureWith m s).se.result = s.se.result ∧
    (configureWith m s).se.identity = s.se.identity ∧ (configureWith m s).se.snap = s.se.snap ∧
    (configureWith m s).se.grid = s.se.grid ∧ (configureWith m s).se.dirs = s.se.dirs ∧
    (configureWith m s).se.mode = s.se.mode ∧ (configureWith m s).cu.source = s.cu.source ∧
    (configureWith m s).cu.ox = s.cu.ox ∧ (configureWith m s).cu.oy = s.cu.oy ∧ (configureWith m s).cu.gx = s.cu.gx ∧
    (configureWith m s).cu.gy = s.cu.gy ∧ (configureWith m s).cu.wheel = s.cu.wheel ∧
    (configureWith m s).cu.map = s.cu.map ∧ (configureWith m s).cu.pos = s.cu.pos ∧
    (configureWith m s).cu.edge = s.cu.edge ∧ (configureWith m s).cu.inRange = s.cu.inRange ∧
    (configureWith m s).cu.prev = s.cu.prev ∧ (configureWith m s).comp.style = s.comp.style ∧
    (configureWith m s).pat.cascade = s.pat.cascade ∧ (configureWith m s).pat.a = s.pat.a ∧
    (configureWith m s).pat.b = s.pat.b ∧ (configureWith m s).pat.phase = s.pat.phase := by
  unfold configureWith; dsimp only; simp [Composer.cleared]

@[simp] theorem applyConfigure_frame (e : DirEntry) :
    (applyConfigure e s).1.bus = s.bus ∧ (applyConfigure e s).1.band = s.band ∧ (applyConfigure e s).1.dir = s.dir ∧
    (applyConfigure e s).1.pane = s.pane ∧ (applyConfigure e s).1.flt = s.flt ∧
    (applyConfigure e s).1.orderChoices = s.orderChoices ∧ (applyConfigure e s).1.pending = s.pending := by
  unfold applyConfigure; (repeat' split) <;> simp

@[simp] theorem applyConfigure_keeps (e : DirEntry) :
    (applyConfigure e s).1.trk.expected = s.trk.expected ∧ (applyConfigure e s).1.trk.lastWord = s.trk.lastWord ∧
    (applyConfigure e s).1.trk.current = s.trk.current ∧ (applyConfigure e s).1.trk.origin = s.trk.origin ∧
    (applyConfigure e s).1.trk.offset = s.trk.offset ∧ (applyConfigure e s).1.trk.attr = s.trk.attr ∧
    (applyConfigure e s).1.trk.frames = s.trk.frames ∧ (applyConfigure e s).1.se.result = s.se.result ∧
    (applyConfigure e s).1.se.identity = s.se.identity ∧ (applyConfigure e s).1.se.snap = s.se.snap ∧
    (applyConfigure e s).1.se.grid = s.se.grid ∧ (applyConfigure e s).1.se.dirs = s.se.dirs ∧
    (applyConfigure e s).1.se.mode = s.se.mode ∧ (applyConfigure e s).1.cu.source = s.cu.source ∧
    (applyConfigure e s).1.cu.ox = s.cu.ox ∧ (applyConfigure e s).1.cu.oy = s.cu.oy ∧
    (applyConfigure e s).1.cu.gx = s.cu.gx ∧ (applyConfigure e s).1.cu.gy = s.cu.gy ∧
    (applyConfigure e s).1.cu.wheel = s.cu.wheel ∧ (applyConfigure e s).1.cu.map = s.cu.map ∧
    (applyConfigure e s).1.cu.pos = s.cu.pos ∧ (applyConfigure e s).1.cu.edge = s.cu.edge ∧
    (applyConfigure e s).1.cu.inRange = s.cu.inRange ∧ (applyConfigure e s).1.cu.prev = s.cu.prev ∧
    (applyConfigure e s).1.comp.style = s.comp.style ∧ (applyConfigure e s).1.pat.cascade = s.pat.cascade ∧
    (applyConfigure e s).1.pat.a = s.pat.a ∧ (applyConfigure e s).1.pat.b = s.pat.b ∧
    (applyConfigure e s).1.pat.phase = s.pat.phase := by
  unfold applyConfigure; (repeat' split) <;> simp

@[simp] theorem applyRestart_frame (e : DirEntry) :
    (applyRestart e s).1.bus = s.bus ∧ (applyRestart e s).1.orderChoices = s.orderChoices ∧
    (applyRestart e s).1.pending = s.pending := by
  unfold applyRestart; dsimp only; simp

@[simp] theorem applyRestart_keeps (e : DirEntry) :
    (applyRestart e s).1.pat.cascade = s.pat.cascade ∧ (applyRestart e s).1.pat.a = s.pat.a ∧
    (applyRestart e s).1.pat.b = s.pat.b ∧ (applyRestart e s).1.pat.phase = s.pat.phase ∧
    (applyRestart e s).1.flt.last = s.flt.last ∧ (applyRestart e s).1.flt.seq = s.flt.seq ∧
    (applyRestart e s).1.flt.stopCause = s.flt.stopCause ∧ (applyRestart e s).1.flt.latch = s.flt.latch ∧
    (applyRestart e s).1.flt.responses = s.flt.responses ∧ (applyRestart e s).1.flt.watches = s.flt.watches ∧
    (applyRestart e s).1.flt.raised = s.flt.raised := by
  unfold applyRestart; dsimp only; simp

@[simp] theorem applyResume_frame (e : DirEntry) :
    (applyResume e s).1.bus = s.bus ∧ (applyResume e s).1.hv = s.hv ∧ (applyResume e s).1.se = s.se ∧
    (applyResume e s).1.cu = s.cu ∧ (applyResume e s).1.band = s.band ∧ (applyResume e s).1.pat = s.pat ∧
    (applyResume e s).1.dir = s.dir ∧ (applyResume e s).1.pane = s.pane ∧ (applyResume e s).1.flt = s.flt ∧
    (applyResume e s).1.orderChoices = s.orderChoices ∧ (applyResume e s).1.pending = s.pending := by
  unfold applyResume; (repeat' split) <;> simp

@[simp] theorem applyResume_keeps (e : DirEntry) :
    (applyResume e s).1.trk.expected = s.trk.expected ∧ (applyResume e s).1.trk.lastWord = s.trk.lastWord ∧
    (applyResume e s).1.trk.current = s.trk.current ∧ (applyResume e s).1.trk.origin = s.trk.origin ∧
    (applyResume e s).1.trk.offset = s.trk.offset ∧ (applyResume e s).1.trk.attr = s.trk.attr ∧
    (applyResume e s).1.trk.frames = s.trk.frames ∧ (applyResume e s).1.comp.staged = s.comp.staged ∧
    (applyResume e s).1.comp.serving = s.comp.serving ∧ (applyResume e s).1.comp.entered = s.comp.entered ∧
    (applyResume e s).1.comp.style = s.comp.style := by
  unfold applyResume; (repeat' split) <;> simp

@[simp] theorem applySetResponses_frame (e : DirEntry) :
    (applySetResponses e s).1.port = s.port ∧ (applySetResponses e s).1.bus = s.bus ∧
    (applySetResponses e s).1.trk = s.trk ∧ (applySetResponses e s).1.hv = s.hv ∧
    (applySetResponses e s).1.se = s.se ∧ (applySetResponses e s).1.cu = s.cu ∧
    (applySetResponses e s).1.band = s.band ∧ (applySetResponses e s).1.comp = s.comp ∧
    (applySetResponses e s).1.pat = s.pat ∧ (applySetResponses e s).1.dir = s.dir ∧
    (applySetResponses e s).1.pane = s.pane ∧ (applySetResponses e s).1.orderChoices = s.orderChoices ∧
    (applySetResponses e s).1.pending = s.pending := by
  unfold applySetResponses; dsimp only; simp

@[simp] theorem applySetResponses_keeps (e : DirEntry) :
    (applySetResponses e s).1.flt.last = s.flt.last ∧ (applySetResponses e s).1.flt.seq = s.flt.seq ∧
    (applySetResponses e s).1.flt.stopCause = s.flt.stopCause ∧ (applySetResponses e s).1.flt.latch = s.flt.latch ∧
    (applySetResponses e s).1.flt.watches = s.flt.watches ∧ (applySetResponses e s).1.flt.locates = s.flt.locates ∧
    (applySetResponses e s).1.flt.raised = s.flt.raised := by
  unfold applySetResponses; dsimp only; simp

@[simp] theorem applyClearFaults_frame (e : DirEntry) :
    (applyClearFaults e s).1.port = s.port ∧ (applyClearFaults e s).1.bus = s.bus ∧
    (applyClearFaults e s).1.trk = s.trk ∧ (applyClearFaults e s).1.hv = s.hv ∧ (applyClearFaults e s).1.se = s.se ∧
    (applyClearFaults e s).1.cu = s.cu ∧ (applyClearFaults e s).1.band = s.band ∧
    (applyClearFaults e s).1.comp = s.comp ∧ (applyClearFaults e s).1.pat = s.pat ∧
    (applyClearFaults e s).1.dir = s.dir ∧ (applyClearFaults e s).1.pane = s.pane ∧
    (applyClearFaults e s).1.orderChoices = s.orderChoices ∧ (applyClearFaults e s).1.pending = s.pending := by
  unfold applyClearFaults; dsimp only; simp

@[simp] theorem applyClearFaults_keeps (e : DirEntry) :
    (applyClearFaults e s).1.flt.last = s.flt.last ∧ (applyClearFaults e s).1.flt.seq = s.flt.seq ∧
    (applyClearFaults e s).1.flt.responses = s.flt.responses ∧ (applyClearFaults e s).1.flt.watches = s.flt.watches ∧
    (applyClearFaults e s).1.flt.locates = s.flt.locates ∧ (applyClearFaults e s).1.flt.raised = s.flt.raised := by
  unfold applyClearFaults; dsimp only; simp

@[simp] theorem applySetWatch_frame (e : DirEntry) :
    (applySetWatch e s).1.port = s.port ∧ (applySetWatch e s).1.bus = s.bus ∧ (applySetWatch e s).1.trk = s.trk ∧
    (applySetWatch e s).1.hv = s.hv ∧ (applySetWatch e s).1.se = s.se ∧ (applySetWatch e s).1.cu = s.cu ∧
    (applySetWatch e s).1.band = s.band ∧ (applySetWatch e s).1.comp = s.comp ∧ (applySetWatch e s).1.pat = s.pat ∧
    (applySetWatch e s).1.dir = s.dir ∧ (applySetWatch e s).1.pane = s.pane ∧
    (applySetWatch e s).1.orderChoices = s.orderChoices ∧ (applySetWatch e s).1.pending = s.pending := by
  unfold applySetWatch; dsimp only; (repeat' split) <;> simp

@[simp] theorem applySetWatch_keeps (e : DirEntry) :
    (applySetWatch e s).1.flt.last = s.flt.last ∧ (applySetWatch e s).1.flt.seq = s.flt.seq ∧
    (applySetWatch e s).1.flt.stopCause = s.flt.stopCause ∧ (applySetWatch e s).1.flt.latch = s.flt.latch ∧
    (applySetWatch e s).1.flt.responses = s.flt.responses ∧ (applySetWatch e s).1.flt.raised = s.flt.raised := by
  unfold applySetWatch; dsimp only; (repeat' split) <;> simp

@[simp] theorem applyFreeze_frame (e : DirEntry) :
    (applyFreeze e s).1.port = s.port ∧ (applyFreeze e s).1.bus = s.bus ∧ (applyFreeze e s).1.trk = s.trk ∧
    (applyFreeze e s).1.hv = s.hv ∧ (applyFreeze e s).1.se = s.se ∧ (applyFreeze e s).1.cu = s.cu ∧
    (applyFreeze e s).1.band = s.band ∧ (applyFreeze e s).1.comp = s.comp ∧ (applyFreeze e s).1.dir = s.dir ∧
    (applyFreeze e s).1.pane = s.pane ∧ (applyFreeze e s).1.flt = s.flt ∧
    (applyFreeze e s).1.orderChoices = s.orderChoices ∧ (applyFreeze e s).1.pending = s.pending := by
  unfold applyFreeze; (repeat' split) <;> simp

@[simp] theorem applyFreeze_keeps (e : DirEntry) :
    (applyFreeze e s).1.pat.cascade = s.pat.cascade ∧ (applyFreeze e s).1.pat.a = s.pat.a ∧
    (applyFreeze e s).1.pat.b = s.pat.b ∧ (applyFreeze e s).1.pat.phase = s.pat.phase := by
  unfold applyFreeze; (repeat' split) <;> simp

@[simp] theorem applyThaw_frame (e : DirEntry) :
    (applyThaw e s).1.port = s.port ∧ (applyThaw e s).1.bus = s.bus ∧ (applyThaw e s).1.trk = s.trk ∧
    (applyThaw e s).1.hv = s.hv ∧ (applyThaw e s).1.se = s.se ∧ (applyThaw e s).1.cu = s.cu ∧
    (applyThaw e s).1.band = s.band ∧ (applyThaw e s).1.comp = s.comp ∧ (applyThaw e s).1.dir = s.dir ∧
    (applyThaw e s).1.pane = s.pane ∧ (applyThaw e s).1.flt = s.flt ∧
    (applyThaw e s).1.orderChoices = s.orderChoices ∧ (applyThaw e s).1.pending = s.pending := by
  unfold applyThaw; dsimp only; simp

@[simp] theorem applyThaw_keeps (e : DirEntry) :
    (applyThaw e s).1.pat.cascade = s.pat.cascade ∧ (applyThaw e s).1.pat.a = s.pat.a ∧
    (applyThaw e s).1.pat.b = s.pat.b ∧ (applyThaw e s).1.pat.phase = s.pat.phase := by
  unfold applyThaw; dsimp only; simp

@[simp] theorem applySetBlink_frame (e : DirEntry) :
    (applySetBlink e s).1.port = s.port ∧ (applySetBlink e s).1.bus = s.bus ∧ (applySetBlink e s).1.trk = s.trk ∧
    (applySetBlink e s).1.hv = s.hv ∧ (applySetBlink e s).1.se = s.se ∧ (applySetBlink e s).1.cu = s.cu ∧
    (applySetBlink e s).1.band = s.band ∧ (applySetBlink e s).1.dir = s.dir ∧ (applySetBlink e s).1.pane = s.pane ∧
    (applySetBlink e s).1.flt = s.flt ∧ (applySetBlink e s).1.orderChoices = s.orderChoices ∧
    (applySetBlink e s).1.pending = s.pending := by
  unfold applySetBlink; dsimp only; (repeat' split) <;> simp

@[simp] theorem applySetBlink_keeps (e : DirEntry) :
    (applySetBlink e s).1.pat.phase = s.pat.phase ∧ (applySetBlink e s).1.pat.frozen = s.pat.frozen ∧
    (applySetBlink e s).1.comp.staged = s.comp.staged ∧ (applySetBlink e s).1.comp.serving = s.comp.serving ∧
    (applySetBlink e s).1.comp.entered = s.comp.entered ∧ (applySetBlink e s).1.comp.style = s.comp.style := by
  unfold applySetBlink; dsimp only; (repeat' split) <;> simp

@[simp] theorem applySetInput_frame (e : DirEntry) :
    (applySetInput e s).1.port = s.port ∧ (applySetInput e s).1.bus = s.bus ∧ (applySetInput e s).1.trk = s.trk ∧
    (applySetInput e s).1.hv = s.hv ∧ (applySetInput e s).1.band = s.band ∧ (applySetInput e s).1.pat = s.pat ∧
    (applySetInput e s).1.dir = s.dir ∧ (applySetInput e s).1.flt = s.flt ∧
    (applySetInput e s).1.orderChoices = s.orderChoices ∧ (applySetInput e s).1.pending = s.pending := by
  unfold applySetInput; dsimp only; (repeat' split) <;> simp

@[simp] theorem applySetInput_keeps (e : DirEntry) :
    (applySetInput e s).1.cu.map = s.cu.map ∧ (applySetInput e s).1.cu.pos = s.cu.pos ∧
    (applySetInput e s).1.cu.edge = s.cu.edge ∧ (applySetInput e s).1.cu.ring = s.cu.ring ∧
    (applySetInput e s).1.cu.capture = s.cu.capture ∧ (applySetInput e s).1.pane.mask = s.pane.mask ∧
    (applySetInput e s).1.pane.resultLatch = s.pane.resultLatch ∧
    (applySetInput e s).1.pane.commitLatch = s.pane.commitLatch ∧
    (applySetInput e s).1.pane.peekLatch = s.pane.peekLatch ∧ (applySetInput e s).1.pane.peek = s.pane.peek ∧
    (applySetInput e s).1.se.presses = s.se.presses ∧ (applySetInput e s).1.se.search = s.se.search ∧
    (applySetInput e s).1.se.identity = s.se.identity ∧ (applySetInput e s).1.se.snap = s.se.snap ∧
    (applySetInput e s).1.se.grid = s.se.grid ∧ (applySetInput e s).1.se.dirs = s.se.dirs ∧
    (applySetInput e s).1.se.mode = s.se.mode ∧ (applySetInput e s).1.se.result.point = s.se.result.point ∧
    (applySetInput e s).1.comp.staged = s.comp.staged ∧ (applySetInput e s).1.comp.serving = s.comp.serving ∧
    (applySetInput e s).1.comp.entered = s.comp.entered ∧ (applySetInput e s).1.comp.style = s.comp.style := by
  unfold applySetInput; dsimp only; (repeat' split) <;> simp

@[simp] theorem filePresses_frame (l : List Press) :
    (filePresses l s).port = s.port ∧ (filePresses l s).bus = s.bus ∧ (filePresses l s).trk = s.trk ∧
    (filePresses l s).hv = s.hv ∧ (filePresses l s).cu = s.cu ∧ (filePresses l s).band = s.band ∧
    (filePresses l s).comp = s.comp ∧ (filePresses l s).pat = s.pat ∧ (filePresses l s).dir = s.dir ∧
    (filePresses l s).pane = s.pane ∧ (filePresses l s).orderChoices = s.orderChoices ∧
    (filePresses l s).pending = s.pending := by
  unfold filePresses
  induction l generalizing s with
  | nil => simp
  | cons e l ih => simp [List.foldl_cons, ih]

@[simp] theorem filePresses_keeps (l : List Press) :
    (filePresses l s).se.search = s.se.search ∧ (filePresses l s).se.result = s.se.result ∧
    (filePresses l s).se.identity = s.se.identity ∧ (filePresses l s).se.snap = s.se.snap ∧
    (filePresses l s).se.grid = s.se.grid ∧ (filePresses l s).se.dirs = s.se.dirs ∧
    (filePresses l s).se.mode = s.se.mode ∧ (filePresses l s).flt.last = s.flt.last ∧
    (filePresses l s).flt.seq = s.flt.seq ∧ (filePresses l s).flt.stopCause = s.flt.stopCause ∧
    (filePresses l s).flt.latch = s.flt.latch ∧ (filePresses l s).flt.responses = s.flt.responses ∧
    (filePresses l s).flt.watches = s.flt.watches ∧ (filePresses l s).flt.locates = s.flt.locates := by
  unfold filePresses
  induction l generalizing s with
  | nil => simp
  | cons e l ih => simp [List.foldl_cons, ih]

@[simp] theorem applySetCursor_frame (e : DirEntry) :
    (applySetCursor e s).1.port = s.port ∧ (applySetCursor e s).1.bus = s.bus ∧ (applySetCursor e s).1.trk = s.trk ∧
    (applySetCursor e s).1.hv = s.hv ∧ (applySetCursor e s).1.band = s.band ∧ (applySetCursor e s).1.pat = s.pat ∧
    (applySetCursor e s).1.dir = s.dir ∧ (applySetCursor e s).1.orderChoices = s.orderChoices ∧
    (applySetCursor e s).1.pending = s.pending := by
  unfold applySetCursor; dsimp only; (repeat' split) <;> simp

@[simp] theorem applySetCursor_keeps (e : DirEntry) :
    (applySetCursor e s).1.cu.source = s.cu.source ∧ (applySetCursor e s).1.cu.ox = s.cu.ox ∧
    (applySetCursor e s).1.cu.oy = s.cu.oy ∧ (applySetCursor e s).1.cu.gx = s.cu.gx ∧
    (applySetCursor e s).1.cu.gy = s.cu.gy ∧ (applySetCursor e s).1.cu.wheel = s.cu.wheel ∧
    (applySetCursor e s).1.cu.map = s.cu.map ∧ (applySetCursor e s).1.cu.prev = s.cu.prev ∧
    (applySetCursor e s).1.cu.ring = s.cu.ring ∧ (applySetCursor e s).1.cu.capture = s.cu.capture ∧
    (applySetCursor e s).1.pane.mask = s.pane.mask ∧ (applySetCursor e s).1.pane.resultLatch = s.pane.resultLatch ∧
    (applySetCursor e s).1.pane.commitLatch = s.pane.commitLatch ∧
    (applySetCursor e s).1.pane.peekLatch = s.pane.peekLatch ∧ (applySetCursor e s).1.pane.peek = s.pane.peek ∧
    (applySetCursor e s).1.se.search = s.se.search ∧ (applySetCursor e s).1.se.identity = s.se.identity ∧
    (applySetCursor e s).1.se.snap = s.se.snap ∧ (applySetCursor e s).1.se.grid = s.se.grid ∧
    (applySetCursor e s).1.se.dirs = s.se.dirs ∧ (applySetCursor e s).1.se.mode = s.se.mode ∧
    (applySetCursor e s).1.se.result.point = s.se.result.point ∧ (applySetCursor e s).1.comp.staged = s.comp.staged ∧
    (applySetCursor e s).1.comp.serving = s.comp.serving ∧ (applySetCursor e s).1.comp.entered = s.comp.entered ∧
    (applySetCursor e s).1.comp.style = s.comp.style ∧ (applySetCursor e s).1.flt.last = s.flt.last ∧
    (applySetCursor e s).1.flt.seq = s.flt.seq ∧ (applySetCursor e s).1.flt.stopCause = s.flt.stopCause ∧
    (applySetCursor e s).1.flt.latch = s.flt.latch ∧ (applySetCursor e s).1.flt.responses = s.flt.responses ∧
    (applySetCursor e s).1.flt.watches = s.flt.watches ∧ (applySetCursor e s).1.flt.locates = s.flt.locates := by
  unfold applySetCursor; dsimp only; (repeat' split) <;> simp

@[simp] theorem applySetButtons_frame (e : DirEntry) :
    (applySetButtons e s).1.port = s.port ∧ (applySetButtons e s).1.bus = s.bus ∧
    (applySetButtons e s).1.trk = s.trk ∧ (applySetButtons e s).1.hv = s.hv ∧ (applySetButtons e s).1.se = s.se ∧
    (applySetButtons e s).1.band = s.band ∧ (applySetButtons e s).1.comp = s.comp ∧
    (applySetButtons e s).1.pat = s.pat ∧ (applySetButtons e s).1.dir = s.dir ∧
    (applySetButtons e s).1.pane = s.pane ∧ (applySetButtons e s).1.flt = s.flt ∧
    (applySetButtons e s).1.orderChoices = s.orderChoices ∧ (applySetButtons e s).1.pending = s.pending := by
  unfold applySetButtons; dsimp only; simp

@[simp] theorem applySetButtons_keeps (e : DirEntry) :
    (applySetButtons e s).1.cu.source = s.cu.source ∧ (applySetButtons e s).1.cu.ox = s.cu.ox ∧
    (applySetButtons e s).1.cu.oy = s.cu.oy ∧ (applySetButtons e s).1.cu.gx = s.cu.gx ∧
    (applySetButtons e s).1.cu.gy = s.cu.gy ∧ (applySetButtons e s).1.cu.wheel = s.cu.wheel ∧
    (applySetButtons e s).1.cu.pos = s.cu.pos ∧ (applySetButtons e s).1.cu.edge = s.cu.edge ∧
    (applySetButtons e s).1.cu.inRange = s.cu.inRange ∧ (applySetButtons e s).1.cu.prev = s.cu.prev ∧
    (applySetButtons e s).1.cu.ring = s.cu.ring ∧ (applySetButtons e s).1.cu.capture = s.cu.capture := by
  unfold applySetButtons; dsimp only; simp

@[simp] theorem applySetSnap_frame (e : DirEntry) :
    (applySetSnap e s).1.port = s.port ∧ (applySetSnap e s).1.bus = s.bus ∧ (applySetSnap e s).1.trk = s.trk ∧
    (applySetSnap e s).1.hv = s.hv ∧ (applySetSnap e s).1.cu = s.cu ∧ (applySetSnap e s).1.band = s.band ∧
    (applySetSnap e s).1.comp = s.comp ∧ (applySetSnap e s).1.pat = s.pat ∧ (applySetSnap e s).1.dir = s.dir ∧
    (applySetSnap e s).1.pane = s.pane ∧ (applySetSnap e s).1.flt = s.flt ∧
    (applySetSnap e s).1.orderChoices = s.orderChoices ∧ (applySetSnap e s).1.pending = s.pending := by
  unfold applySetSnap; dsimp only; simp

@[simp] theorem applySetSnap_keeps (e : DirEntry) :
    (applySetSnap e s).1.se.presses = s.se.presses ∧ (applySetSnap e s).1.se.motion = s.se.motion ∧
    (applySetSnap e s).1.se.search = s.se.search ∧ (applySetSnap e s).1.se.result = s.se.result ∧
    (applySetSnap e s).1.se.identity = s.se.identity ∧ (applySetSnap e s).1.se.grid = s.se.grid ∧
    (applySetSnap e s).1.se.dirs = s.se.dirs ∧ (applySetSnap e s).1.se.mode = s.se.mode := by
  unfold applySetSnap; dsimp only; simp

@[simp] theorem applySetGrid_frame (e : DirEntry) :
    (applySetGrid e s).1.port = s.port ∧ (applySetGrid e s).1.bus = s.bus ∧ (applySetGrid e s).1.trk = s.trk ∧
    (applySetGrid e s).1.hv = s.hv ∧ (applySetGrid e s).1.cu = s.cu ∧ (applySetGrid e s).1.band = s.band ∧
    (applySetGrid e s).1.comp = s.comp ∧ (applySetGrid e s).1.pat = s.pat ∧ (applySetGrid e s).1.dir = s.dir ∧
    (applySetGrid e s).1.pane = s.pane ∧ (applySetGrid e s).1.flt = s.flt ∧
    (applySetGrid e s).1.orderChoices = s.orderChoices ∧ (applySetGrid e s).1.pending = s.pending := by
  unfold applySetGrid; dsimp only; simp

@[simp] theorem applySetGrid_keeps (e : DirEntry) :
    (applySetGrid e s).1.se.presses = s.se.presses ∧ (applySetGrid e s).1.se.motion = s.se.motion ∧
    (applySetGrid e s).1.se.search = s.se.search ∧ (applySetGrid e s).1.se.result = s.se.result ∧
    (applySetGrid e s).1.se.identity = s.se.identity ∧ (applySetGrid e s).1.se.snap = s.se.snap ∧
    (applySetGrid e s).1.se.dirs = s.se.dirs ∧ (applySetGrid e s).1.se.mode = s.se.mode := by
  unfold applySetGrid; dsimp only; simp

@[simp] theorem loadTable_frame (l : List Pt) (a c : Nat) :
    (loadTable l a c s).port = s.port ∧ (loadTable l a c s).bus = s.bus ∧ (loadTable l a c s).trk = s.trk ∧
    (loadTable l a c s).hv = s.hv ∧ (loadTable l a c s).cu = s.cu ∧ (loadTable l a c s).band = s.band ∧
    (loadTable l a c s).comp = s.comp ∧ (loadTable l a c s).pat = s.pat ∧ (loadTable l a c s).pane = s.pane ∧
    (loadTable l a c s).flt = s.flt ∧ (loadTable l a c s).orderChoices = s.orderChoices ∧
    (loadTable l a c s).pending = s.pending := by
  unfold loadTable; dsimp only; simp

@[simp] theorem loadTable_keeps (l : List Pt) (a c : Nat) :
    (loadTable l a c s).se.presses = s.se.presses ∧ (loadTable l a c s).se.motion = s.se.motion ∧
    (loadTable l a c s).se.search = s.se.search ∧ (loadTable l a c s).se.result = s.se.result ∧
    (loadTable l a c s).se.identity = s.se.identity ∧ (loadTable l a c s).se.snap = s.se.snap ∧
    (loadTable l a c s).se.grid = s.se.grid ∧ (loadTable l a c s).se.mode = s.se.mode ∧
    (loadTable l a c s).dir.shadow = s.dir.shadow ∧ (loadTable l a c s).dir.queue = s.dir.queue ∧
    (loadTable l a c s).dir.progress = s.dir.progress := by
  unfold loadTable; dsimp only; simp

@[simp] theorem applyLoadDirections_frame (e : DirEntry) :
    (applyLoadDirections e s).1.port = s.port ∧ (applyLoadDirections e s).1.bus = s.bus ∧
    (applyLoadDirections e s).1.trk = s.trk ∧ (applyLoadDirections e s).1.hv = s.hv ∧
    (applyLoadDirections e s).1.cu = s.cu ∧ (applyLoadDirections e s).1.band = s.band ∧
    (applyLoadDirections e s).1.comp = s.comp ∧ (applyLoadDirections e s).1.pat = s.pat ∧
    (applyLoadDirections e s).1.pane = s.pane ∧ (applyLoadDirections e s).1.flt = s.flt ∧
    (applyLoadDirections e s).1.orderChoices = s.orderChoices ∧ (applyLoadDirections e s).1.pending = s.pending := by
  unfold applyLoadDirections; dsimp only; (repeat' split) <;> simp

@[simp] theorem applyLoadDirections_keeps (e : DirEntry) :
    (applyLoadDirections e s).1.se.presses = s.se.presses ∧ (applyLoadDirections e s).1.se.motion = s.se.motion ∧
    (applyLoadDirections e s).1.se.search = s.se.search ∧ (applyLoadDirections e s).1.se.result = s.se.result ∧
    (applyLoadDirections e s).1.se.identity = s.se.identity ∧ (applyLoadDirections e s).1.se.snap = s.se.snap ∧
    (applyLoadDirections e s).1.se.grid = s.se.grid ∧ (applyLoadDirections e s).1.se.mode = s.se.mode ∧
    (applyLoadDirections e s).1.dir.shadow = s.dir.shadow ∧ (applyLoadDirections e s).1.dir.queue = s.dir.queue ∧
    (applyLoadDirections e s).1.dir.progress = s.dir.progress := by
  unfold applyLoadDirections; dsimp only; (repeat' split) <;> simp

@[simp] theorem applyContinueDirections_frame (e : DirEntry) :
    (applyContinueDirections e s).1.port = s.port ∧ (applyContinueDirections e s).1.bus = s.bus ∧
    (applyContinueDirections e s).1.trk = s.trk ∧ (applyContinueDirections e s).1.hv = s.hv ∧
    (applyContinueDirections e s).1.cu = s.cu ∧ (applyContinueDirections e s).1.band = s.band ∧
    (applyContinueDirections e s).1.comp = s.comp ∧ (applyContinueDirections e s).1.pat = s.pat ∧
    (applyContinueDirections e s).1.pane = s.pane ∧ (applyContinueDirections e s).1.flt = s.flt ∧
    (applyContinueDirections e s).1.orderChoices = s.orderChoices ∧
    (applyContinueDirections e s).1.pending = s.pending := by
  unfold applyContinueDirections; dsimp only; (repeat' split) <;> simp

@[simp] theorem applyContinueDirections_keeps (e : DirEntry) :
    (applyContinueDirections e s).1.se.presses = s.se.presses ∧
    (applyContinueDirections e s).1.se.motion = s.se.motion ∧
    (applyContinueDirections e s).1.se.search = s.se.search ∧
    (applyContinueDirections e s).1.se.result = s.se.result ∧
    (applyContinueDirections e s).1.se.identity = s.se.identity ∧
    (applyContinueDirections e s).1.se.snap = s.se.snap ∧ (applyContinueDirections e s).1.se.grid = s.se.grid ∧
    (applyContinueDirections e s).1.se.mode = s.se.mode ∧ (applyContinueDirections e s).1.dir.shadow = s.dir.shadow ∧
    (applyContinueDirections e s).1.dir.queue = s.dir.queue ∧
    (applyContinueDirections e s).1.dir.progress = s.dir.progress := by
  unfold applyContinueDirections; dsimp only; (repeat' split) <;> simp

@[simp] theorem applySetConstraint_frame (e : DirEntry) :
    (applySetConstraint e s).1.port = s.port ∧ (applySetConstraint e s).1.bus = s.bus ∧
    (applySetConstraint e s).1.trk = s.trk ∧ (applySetConstraint e s).1.hv = s.hv ∧
    (applySetConstraint e s).1.cu = s.cu ∧ (applySetConstraint e s).1.band = s.band ∧
    (applySetConstraint e s).1.comp = s.comp ∧ (applySetConstraint e s).1.pat = s.pat ∧
    (applySetConstraint e s).1.dir = s.dir ∧ (applySetConstraint e s).1.pane = s.pane ∧
    (applySetConstraint e s).1.flt = s.flt ∧ (applySetConstraint e s).1.orderChoices = s.orderChoices ∧
    (applySetConstraint e s).1.pending = s.pending := by
  unfold applySetConstraint; dsimp only; simp

@[simp] theorem applySetConstraint_keeps (e : DirEntry) :
    (applySetConstraint e s).1.se.presses = s.se.presses ∧ (applySetConstraint e s).1.se.motion = s.se.motion ∧
    (applySetConstraint e s).1.se.search = s.se.search ∧ (applySetConstraint e s).1.se.result = s.se.result ∧
    (applySetConstraint e s).1.se.identity = s.se.identity ∧ (applySetConstraint e s).1.se.snap = s.se.snap ∧
    (applySetConstraint e s).1.se.grid = s.se.grid ∧ (applySetConstraint e s).1.se.dirs = s.se.dirs := by
  unfold applySetConstraint; dsimp only; simp

@[simp] theorem applySetAnchor_frame (e : DirEntry) :
    (applySetAnchor e s).1.port = s.port ∧ (applySetAnchor e s).1.bus = s.bus ∧ (applySetAnchor e s).1.trk = s.trk ∧
    (applySetAnchor e s).1.hv = s.hv ∧ (applySetAnchor e s).1.se = s.se ∧ (applySetAnchor e s).1.cu = s.cu ∧
    (applySetAnchor e s).1.pat = s.pat ∧ (applySetAnchor e s).1.dir = s.dir ∧ (applySetAnchor e s).1.pane = s.pane ∧
    (applySetAnchor e s).1.flt = s.flt ∧ (applySetAnchor e s).1.orderChoices = s.orderChoices ∧
    (applySetAnchor e s).1.pending = s.pending := by
  unfold applySetAnchor; dsimp only; simp

@[simp] theorem applySetAnchor_keeps (e : DirEntry) :
    (applySetAnchor e s).1.band.trail = s.band.trail ∧ (applySetAnchor e s).1.band.shape = s.band.shape ∧
    (applySetAnchor e s).1.band.period = s.band.period ∧ (applySetAnchor e s).1.band.onLen = s.band.onLen ∧
    (applySetAnchor e s).1.band.march = s.band.march ∧ (applySetAnchor e s).1.band.commit = s.band.commit ∧
    (applySetAnchor e s).1.comp.staged = s.comp.staged ∧ (applySetAnchor e s).1.comp.serving = s.comp.serving ∧
    (applySetAnchor e s).1.comp.entered = s.comp.entered ∧ (applySetAnchor e s).1.comp.style = s.comp.style := by
  unfold applySetAnchor; dsimp only; simp

@[simp] theorem applyClearAnchor_frame (e : DirEntry) :
    (applyClearAnchor e s).1.port = s.port ∧ (applyClearAnchor e s).1.bus = s.bus ∧
    (applyClearAnchor e s).1.trk = s.trk ∧ (applyClearAnchor e s).1.hv = s.hv ∧ (applyClearAnchor e s).1.se = s.se ∧
    (applyClearAnchor e s).1.cu = s.cu ∧ (applyClearAnchor e s).1.pat = s.pat ∧ (applyClearAnchor e s).1.dir = s.dir ∧
    (applyClearAnchor e s).1.pane = s.pane ∧ (applyClearAnchor e s).1.flt = s.flt ∧
    (applyClearAnchor e s).1.orderChoices = s.orderChoices ∧ (applyClearAnchor e s).1.pending = s.pending := by
  unfold applyClearAnchor; dsimp only; simp

@[simp] theorem applyClearAnchor_keeps (e : DirEntry) :
    (applyClearAnchor e s).1.band.trail = s.band.trail ∧ (applyClearAnchor e s).1.band.shape = s.band.shape ∧
    (applyClearAnchor e s).1.band.period = s.band.period ∧ (applyClearAnchor e s).1.band.onLen = s.band.onLen ∧
    (applyClearAnchor e s).1.band.march = s.band.march ∧ (applyClearAnchor e s).1.band.commit = s.band.commit ∧
    (applyClearAnchor e s).1.comp.staged = s.comp.staged ∧ (applyClearAnchor e s).1.comp.serving = s.comp.serving ∧
    (applyClearAnchor e s).1.comp.entered = s.comp.entered ∧ (applyClearAnchor e s).1.comp.style = s.comp.style := by
  unfold applyClearAnchor; dsimp only; simp

@[simp] theorem applyTrailAppend_frame (e : DirEntry) :
    (applyTrailAppend e s).1.port = s.port ∧ (applyTrailAppend e s).1.bus = s.bus ∧
    (applyTrailAppend e s).1.trk = s.trk ∧ (applyTrailAppend e s).1.hv = s.hv ∧ (applyTrailAppend e s).1.se = s.se ∧
    (applyTrailAppend e s).1.cu = s.cu ∧ (applyTrailAppend e s).1.pat = s.pat ∧ (applyTrailAppend e s).1.dir = s.dir ∧
    (applyTrailAppend e s).1.pane = s.pane ∧ (applyTrailAppend e s).1.flt = s.flt ∧
    (applyTrailAppend e s).1.orderChoices = s.orderChoices ∧ (applyTrailAppend e s).1.pending = s.pending := by
  unfold applyTrailAppend; (repeat' split) <;> simp

@[simp] theorem applyTrailAppend_keeps (e : DirEntry) :
    (applyTrailAppend e s).1.band.shape = s.band.shape ∧ (applyTrailAppend e s).1.band.period = s.band.period ∧
    (applyTrailAppend e s).1.band.onLen = s.band.onLen ∧ (applyTrailAppend e s).1.band.march = s.band.march ∧
    (applyTrailAppend e s).1.band.commit = s.band.commit ∧ (applyTrailAppend e s).1.comp.staged = s.comp.staged ∧
    (applyTrailAppend e s).1.comp.serving = s.comp.serving ∧ (applyTrailAppend e s).1.comp.entered = s.comp.entered ∧
    (applyTrailAppend e s).1.comp.style = s.comp.style := by
  unfold applyTrailAppend; (repeat' split) <;> simp

@[simp] theorem applyTrailDrop_frame (e : DirEntry) :
    (applyTrailDrop e s).1.port = s.port ∧ (applyTrailDrop e s).1.bus = s.bus ∧ (applyTrailDrop e s).1.trk = s.trk ∧
    (applyTrailDrop e s).1.hv = s.hv ∧ (applyTrailDrop e s).1.se = s.se ∧ (applyTrailDrop e s).1.cu = s.cu ∧
    (applyTrailDrop e s).1.pat = s.pat ∧ (applyTrailDrop e s).1.dir = s.dir ∧ (applyTrailDrop e s).1.pane = s.pane ∧
    (applyTrailDrop e s).1.flt = s.flt ∧ (applyTrailDrop e s).1.orderChoices = s.orderChoices ∧
    (applyTrailDrop e s).1.pending = s.pending := by
  unfold applyTrailDrop; (repeat' split) <;> simp

@[simp] theorem applyTrailDrop_keeps (e : DirEntry) :
    (applyTrailDrop e s).1.band.shape = s.band.shape ∧ (applyTrailDrop e s).1.band.period = s.band.period ∧
    (applyTrailDrop e s).1.band.onLen = s.band.onLen ∧ (applyTrailDrop e s).1.band.march = s.band.march ∧
    (applyTrailDrop e s).1.band.commit = s.band.commit ∧ (applyTrailDrop e s).1.comp.staged = s.comp.staged ∧
    (applyTrailDrop e s).1.comp.serving = s.comp.serving ∧ (applyTrailDrop e s).1.comp.entered = s.comp.entered ∧
    (applyTrailDrop e s).1.comp.style = s.comp.style := by
  unfold applyTrailDrop; (repeat' split) <;> simp

@[simp] theorem applyTrailClear_frame (e : DirEntry) :
    (applyTrailClear e s).1.port = s.port ∧ (applyTrailClear e s).1.bus = s.bus ∧
    (applyTrailClear e s).1.trk = s.trk ∧ (applyTrailClear e s).1.hv = s.hv ∧ (applyTrailClear e s).1.se = s.se ∧
    (applyTrailClear e s).1.cu = s.cu ∧ (applyTrailClear e s).1.pat = s.pat ∧ (applyTrailClear e s).1.dir = s.dir ∧
    (applyTrailClear e s).1.pane = s.pane ∧ (applyTrailClear e s).1.flt = s.flt ∧
    (applyTrailClear e s).1.orderChoices = s.orderChoices ∧ (applyTrailClear e s).1.pending = s.pending := by
  unfold applyTrailClear; dsimp only; simp

@[simp] theorem applyTrailClear_keeps (e : DirEntry) :
    (applyTrailClear e s).1.band.shape = s.band.shape ∧ (applyTrailClear e s).1.band.period = s.band.period ∧
    (applyTrailClear e s).1.band.onLen = s.band.onLen ∧ (applyTrailClear e s).1.band.march = s.band.march ∧
    (applyTrailClear e s).1.band.commit = s.band.commit ∧ (applyTrailClear e s).1.comp.staged = s.comp.staged ∧
    (applyTrailClear e s).1.comp.serving = s.comp.serving ∧ (applyTrailClear e s).1.comp.entered = s.comp.entered ∧
    (applyTrailClear e s).1.comp.style = s.comp.style := by
  unfold applyTrailClear; dsimp only; simp

@[simp] theorem applySetBand_frame (e : DirEntry) :
    (applySetBand e s).1.port = s.port ∧ (applySetBand e s).1.bus = s.bus ∧ (applySetBand e s).1.trk = s.trk ∧
    (applySetBand e s).1.hv = s.hv ∧ (applySetBand e s).1.se = s.se ∧ (applySetBand e s).1.cu = s.cu ∧
    (applySetBand e s).1.dir = s.dir ∧ (applySetBand e s).1.pane = s.pane ∧ (applySetBand e s).1.flt = s.flt ∧
    (applySetBand e s).1.orderChoices = s.orderChoices ∧ (applySetBand e s).1.pending = s.pending := by
  unfold applySetBand; dsimp only; simp

@[simp] theorem applySetBand_keeps (e : DirEntry) :
    (applySetBand e s).1.band.anchor = s.band.anchor ∧ (applySetBand e s).1.band.trail = s.band.trail ∧
    (applySetBand e s).1.band.commit = s.band.commit ∧ (applySetBand e s).1.pat.cascade = s.pat.cascade ∧
    (applySetBand e s).1.pat.a = s.pat.a ∧ (applySetBand e s).1.pat.b = s.pat.b ∧
    (applySetBand e s).1.pat.frozen = s.pat.frozen ∧ (applySetBand e s).1.comp.staged = s.comp.staged ∧
    (applySetBand e s).1.comp.serving = s.comp.serving ∧ (applySetBand e s).1.comp.entered = s.comp.entered ∧
    (applySetBand e s).1.comp.style = s.comp.style := by
  unfold applySetBand; dsimp only; simp

@[simp] theorem applySetStyle_frame (e : DirEntry) :
    (applySetStyle e s).1.port = s.port ∧ (applySetStyle e s).1.bus = s.bus ∧ (applySetStyle e s).1.trk = s.trk ∧
    (applySetStyle e s).1.hv = s.hv ∧ (applySetStyle e s).1.se = s.se ∧ (applySetStyle e s).1.cu = s.cu ∧
    (applySetStyle e s).1.band = s.band ∧ (applySetStyle e s).1.pat = s.pat ∧ (applySetStyle e s).1.dir = s.dir ∧
    (applySetStyle e s).1.pane = s.pane ∧ (applySetStyle e s).1.flt = s.flt ∧
    (applySetStyle e s).1.orderChoices = s.orderChoices ∧ (applySetStyle e s).1.pending = s.pending := by
  unfold applySetStyle; dsimp only; simp

@[simp] theorem applySetStyle_keeps (e : DirEntry) :
    (applySetStyle e s).1.comp.staged = s.comp.staged ∧ (applySetStyle e s).1.comp.serving = s.comp.serving ∧
    (applySetStyle e s).1.comp.entered = s.comp.entered := by
  unfold applySetStyle; dsimp only; simp

@[simp] theorem applySetNotify_frame (e : DirEntry) :
    (applySetNotify e s).1.port = s.port ∧ (applySetNotify e s).1.bus = s.bus ∧ (applySetNotify e s).1.trk = s.trk ∧
    (applySetNotify e s).1.hv = s.hv ∧ (applySetNotify e s).1.se = s.se ∧ (applySetNotify e s).1.cu = s.cu ∧
    (applySetNotify e s).1.band = s.band ∧ (applySetNotify e s).1.comp = s.comp ∧ (applySetNotify e s).1.pat = s.pat ∧
    (applySetNotify e s).1.dir = s.dir ∧ (applySetNotify e s).1.flt = s.flt ∧
    (applySetNotify e s).1.orderChoices = s.orderChoices ∧ (applySetNotify e s).1.pending = s.pending := by
  unfold applySetNotify; dsimp only; simp

@[simp] theorem applySetNotify_keeps (e : DirEntry) :
    (applySetNotify e s).1.pane.flags = s.pane.flags ∧ (applySetNotify e s).1.pane.resultLatch = s.pane.resultLatch ∧
    (applySetNotify e s).1.pane.commitLatch = s.pane.commitLatch ∧
    (applySetNotify e s).1.pane.peekLatch = s.pane.peekLatch ∧ (applySetNotify e s).1.pane.peek = s.pane.peek := by
  unfold applySetNotify; dsimp only; simp

@[simp] theorem applyClearEvents_frame (e : DirEntry) :
    (applyClearEvents e s).1.port = s.port ∧ (applyClearEvents e s).1.bus = s.bus ∧
    (applyClearEvents e s).1.trk = s.trk ∧ (applyClearEvents e s).1.hv = s.hv ∧ (applyClearEvents e s).1.se = s.se ∧
    (applyClearEvents e s).1.cu = s.cu ∧ (applyClearEvents e s).1.band = s.band ∧
    (applyClearEvents e s).1.comp = s.comp ∧ (applyClearEvents e s).1.pat = s.pat ∧
    (applyClearEvents e s).1.dir = s.dir ∧ (applyClearEvents e s).1.pane = s.pane ∧
    (applyClearEvents e s).1.flt = s.flt ∧ (applyClearEvents e s).1.orderChoices = s.orderChoices ∧
    (applyClearEvents e s).1.pending = s.pending := by
  unfold applyClearEvents; dsimp only; simp

@[simp] theorem applySetPeek_frame (e : DirEntry) :
    (applySetPeek e s).1.port = s.port ∧ (applySetPeek e s).1.bus = s.bus ∧ (applySetPeek e s).1.trk = s.trk ∧
    (applySetPeek e s).1.hv = s.hv ∧ (applySetPeek e s).1.se = s.se ∧ (applySetPeek e s).1.cu = s.cu ∧
    (applySetPeek e s).1.band = s.band ∧ (applySetPeek e s).1.comp = s.comp ∧ (applySetPeek e s).1.pat = s.pat ∧
    (applySetPeek e s).1.dir = s.dir ∧ (applySetPeek e s).1.flt = s.flt ∧
    (applySetPeek e s).1.orderChoices = s.orderChoices ∧ (applySetPeek e s).1.pending = s.pending := by
  unfold applySetPeek; dsimp only; simp

@[simp] theorem applySetPeek_keeps (e : DirEntry) :
    (applySetPeek e s).1.pane.flags = s.pane.flags ∧ (applySetPeek e s).1.pane.mask = s.pane.mask ∧
    (applySetPeek e s).1.pane.resultLatch = s.pane.resultLatch ∧
    (applySetPeek e s).1.pane.commitLatch = s.pane.commitLatch := by
  unfold applySetPeek; dsimp only; simp

@[simp] theorem applyUnknown_frame (e : DirEntry) :
    (applyUnknown e s).1.port = s.port ∧ (applyUnknown e s).1.bus = s.bus ∧ (applyUnknown e s).1.trk = s.trk ∧
    (applyUnknown e s).1.hv = s.hv ∧ (applyUnknown e s).1.se = s.se ∧ (applyUnknown e s).1.cu = s.cu ∧
    (applyUnknown e s).1.band = s.band ∧ (applyUnknown e s).1.comp = s.comp ∧ (applyUnknown e s).1.pat = s.pat ∧
    (applyUnknown e s).1.dir = s.dir ∧ (applyUnknown e s).1.pane = s.pane ∧ (applyUnknown e s).1.flt = s.flt ∧
    (applyUnknown e s).1.orderChoices = s.orderChoices ∧ (applyUnknown e s).1.pending = s.pending := by
  unfold applyUnknown; dsimp only; simp

end Sys2Proof.Machine
end

