-- ==== Sys2Proof/Laws/Ops.lean ====
section
/-! SUPPORT. Everything a shared operation can do, said once: one lemma per operation, its cases with their guards. -/

namespace Sys2Proof.Machine

variable (s : State)

/-- R116, R117: what a trigger can do. -/
theorem trigger_cases :
    (s.port.op ≠ .active ∧ trigger s = s)
    ∨ (s.port.op = .active ∧ s.comp.pass = none ∧
      trigger s = { s with comp := { s.comp with pass := some (passInputs s) } })
    ∨ (s.port.op = .active ∧ s.comp.pass ≠ none ∧ trigger s = { s with comp := { s.comp with again := true } }) := by
  unfold trigger; (repeat' split) <;> simp_all

/-- R42: what the filing of a MOTION can do. -/
theorem fileMotion_cases :
    ((s.port.op ≠ .active ∨ s.cu.inRange = false) ∧ fileMotion s = s)
    ∨ (s.port.op = .active ∧ s.cu.inRange = true ∧ fileMotion s = { s with se := { s.se with motion := true } }) := by
  unfold fileMotion; split
  · simp_all
  · rename_i h
    refine .inl ⟨?_, rfl⟩
    by_cases ho : s.port.op = .active <;> simp_all

/-- R41, R43: what the filing of a PRESS can do. -/
theorem filePress_cases (p : Press) :
    (s.port.op ≠ .active ∧ filePress p s = s)
    ∨ (s.port.op = .active ∧ s.se.presses.length < 4 ∧
      filePress p s = { s with se := { s.se with presses := s.se.presses ++ [p], motion := false } })
    ∨ (s.port.op = .active ∧ 4 ≤ s.se.presses.length ∧
      filePress p s = fileMotion (raise .pressOverrun (p.mask.setWidth 20) 0 s)) := by
  unfold filePress; (repeat' split) <;> simp_all

/-- R45, R46: what the start of a search can do. -/
theorem startSearch_cases :
    (startDue s = false ∧ startSearch s = s)
    ∨ ∃ r rest m, startDue s = true
      ∧ ((∃ p, s.se.presses = p :: rest ∧ r = .press p ∧ m = s.se.motion)
        ∨ (s.se.presses = [] ∧ s.se.motion = true ∧ r = .motion ∧ rest = [] ∧ m = false))
      ∧ startSearch s = { s with se := { s.se with
          presses := rest, motion := m, search := some (searchInputs r s), startOwed := false } } := by
  unfold startSearch startDue
  split
  · split
    · rename_i p rest h
      exact .inr ⟨.press p, rest, s.se.motion, by simp_all, .inl ⟨p, h, rfl, rfl⟩, rfl⟩
    · rename_i hp
      split
      · rename_i hm
        exact .inr ⟨.motion, [], false, by simp_all, .inr ⟨hp, hm, rfl, rfl, rfl⟩, by simp only [hp]⟩
      · exact .inl ⟨by simp_all, rfl⟩
  · rename_i h
    refine .inl ⟨?_, rfl⟩
    by_cases ho : s.port.op = .active <;> simp_all

/-- R29: an owed search starts, and no other (log 24). -/
theorem startOwedSearch_cases :
    (s.se.startOwed = false ∧ startOwedSearch s = s) ∨ (s.se.startOwed = true ∧ startOwedSearch s = startSearch s) := by
  unfold startOwedSearch; split <;> simp_all

/-- R44, R90: what a setting of the proximity can do. -/
theorem setProximity_cases (b : Bool) :
    (s.cu.inRange = b ∧ setProximity b s = s)
    ∨ (s.cu.inRange ≠ b ∧
      setProximity b s =
        trigger (searchProximity b (setEvent .proximity { s with cu := { s.cu with inRange := b } }))) := by
  unfold setProximity; split <;> simp_all

/-- R29, R173: what a promotion can do. -/
theorem promote_cases :
    (findBank s.hv.banks .ready = none ∧ promote s = s)
    ∨ ∃ r t, findBank s.hv.banks .ready = some r
      ∧ (t = s.hv.banks ∨ ∃ c, findBank s.hv.banks .current = some c ∧ t = s.hv.banks.set c Bank.released)
      ∧ promote s = fileMotion { s with
          hv := { s.hv with banks := t.set r { t.get r with state := .current } }
          pane := { s.pane with peek := 0, peekLatch := none } } := by
  unfold promote
  split
  · exact .inl ⟨by assumption, rfl⟩
  · rename_i r hr
    refine .inr ⟨r, _, hr, ?_, rfl⟩
    split
    · exact .inl rfl
    · rename_i c hc
      exact .inr ⟨c, hc, rfl⟩

/-- R22: what the arrival of a harvest item can do. -/
theorem queueItem_cases (it : QItem) :
    (geometryCount s.hv.queue < 16 ∧ queueItem it s = { s with hv := { s.hv with queue := s.hv.queue ++ [it] } })
    ∨ (16 ≤ geometryCount s.hv.queue ∧ queueItem it s = recordDrop s.hv.queue [] s) := by
  unfold queueItem; split <;> simp_all

/-- R24: what a drop leaves of the queue and the banks, and what it raises, depends on the queue and the banks alone. -/
theorem recordDrop_congr {x y : State} (h : x.hv = y.hv) (before after : List QItem) :
    (recordDrop before after x).hv = (recordDrop before after y).hv
    ∧ ∃ l, (recordDrop before after x).flt.raised = x.flt.raised ++ l
      ∧ (recordDrop before after y).flt.raised = y.flt.raised ++ l ∧ ∀ f ∈ l, f.code = .queueOverrun := by
  unfold recordDrop raiseOverrun
  cases noteDropRev before.reverse with
  | some n =>
    obtain ⟨rev, frame, first⟩ := n
    cases first
    · exact ⟨by simp [h], [], by simp, by simp, by simp⟩
    · exact ⟨by simp [h, raise], [_], rfl, rfl, by simp⟩
  | none =>
    simp only [h]
    cases findBank y.hv.banks .filling with
    | none => exact ⟨rfl, [], by simp, by simp, by simp⟩
    | some i =>
      cases hi : (y.hv.banks.get i).header.incomplete
      · exact ⟨by simp [setBanks, raise, hi], [_], by simp [hi, raise, setBanks]; rfl, by simp [hi, raise, setBanks], by simp⟩
      · exact ⟨by simp [setBanks, hi], [], by simp [hi, setBanks], by simp [hi, setBanks], by simp⟩

/-- R22, R24: the same of the arrival of a geometry item. -/
theorem queueItem_congr {x y : State} (h : x.hv = y.hv) (it : QItem) :
    (queueItem it x).hv = (queueItem it y).hv
    ∧ ∃ l, (queueItem it x).flt.raised = x.flt.raised ++ l ∧ (queueItem it y).flt.raised = y.flt.raised ++ l
      ∧ ∀ f ∈ l, f.code = .queueOverrun := by
  unfold queueItem
  rw [h]
  split
  · exact ⟨rfl, [], by simp, by simp, by simp⟩
  · exact recordDrop_congr h _ _

/-- R22 to R24: the same of the arrival of a marker. -/
theorem queueMarker_congr {x y : State} (h : x.hv = y.hv) (it : QItem) :
    (queueMarker it x).hv = (queueMarker it y).hv
    ∧ ∃ l, (queueMarker it x).flt.raised = x.flt.raised ++ l ∧ (queueMarker it y).flt.raised = y.flt.raised ++ l
      ∧ ∀ f ∈ l, f.code = .queueOverrun := by
  unfold queueMarker
  rw [h]
  split
  · exact ⟨rfl, [], by simp, by simp, by simp⟩
  · exact recordDrop_congr h _ _

/-- R163, R164: a directive row executes the head entry, or nothing happens. -/
theorem runDirective_cases (k : DirKind) (f : Effect) :
    runDirective k f s = s
    ∨ ∃ e rest, s.dir.queue = e :: rest ∧ e.dirKind = k ∧ mayExecute e s = true ∧
      runDirective k f s = executeEntry f e s := by
  unfold runDirective; (repeat' split) <;> simp_all

/-- R164, R180: a stop executes a HELD head, and no other. -/
theorem stopPart_cases :
    (headHeld s = false ∧ stopPart s = enterBypass s)
    ∨ (headHeld s = true ∧ stopPart s = executeHead (enterBypass s)) := by
  unfold stopPart; split <;> simp_all

/-- R178, R179: the Fault Unit takes the oldest raised fault, and stops the part where its class says so in ACTIVE. -/
theorem takeFault_cases :
    (s.flt.raised = [] ∧ takeFault s = s)
    ∨ ∃ f rest u, s.flt.raised = f :: rest ∧ u = recordFault f { s with flt := { s.flt with raised := rest } } ∧
      ((u.flt.responses.stops f.code ∧ u.port.op = .active ∧ takeFault s = stopPart u)
        ∨ (¬ (u.flt.responses.stops f.code ∧ u.port.op = .active) ∧ takeFault s = u)) := by
  unfold takeFault
  split
  · exact .inl ⟨by assumption, rfl⟩
  · rename_i f rest h
    refine .inr ⟨f, rest, _, h, rfl, ?_⟩
    dsimp only
    split
    · rename_i hg
      exact .inl ⟨hg.1, hg.2, rfl⟩
    · rename_i hg
      exact .inr ⟨hg, rfl⟩

end Sys2Proof.Machine
end

