-- ==== Sys2Proof/Laws/Results.lean ====
section
/-! SUPPORT. The record and the identity that a search publishes have the fields that the statements name. -/

namespace Sys2Proof.Machine

/-- The edge indication says that the point lay off the screen (R66). -/
theorem clampEdge_eq (p : Pt) : clampEdge p = decide (¬ p.OnScreen) := by
  cases p with
  | mk x y => 
    simp only [clampEdge, clampPt, clampCoord, Pt.OnScreen, bne, beq_eq_decide, Pt.mk.injEq, ← decide_not, decide_eq_decide]
    omega

/-- The published record, field by field (R55 to R59). -/
theorem publishes_resultOf (sr : Search) (s : State) : Publishes sr s (resultOf sr s) where
  seq := by unfold resultOf; split <;> rfl
  press := by
    have h : (resultOf sr s).press = sr.request.isPress := by unfold resultOf; split <;> rfl
    rw [h]
    cases sr.request <;> simp [Request.isPress]
  cursor := by unfold resultOf; split <;> rfl
  bankFrame := fun i hi => by unfold resultOf; split <;> simp [heldBank, hi]
  noFrame := fun hn => by unfold resultOf; split <;> simp [heldBank, hn]
  stale := by
    have h : (resultOf sr s).stale = staleTest sr s := by unfold resultOf; split <;> rfl
    rw [h]
    unfold staleTest heldBank
    cases sr.bank <;> simp
  outOfRange := by
    have h : (resultOf sr s).outOfRange = (!sr.request.isPress && !s.cu.inRange) := by unfold resultOf; split <;> rfl
    rw [h]
    cases sr.request <;> simp [Request.isPress]
  object := fun c held hw => by
    unfold resultOf
    rw [hw]
    refine ⟨rfl, rfl, rfl, rfl, clampEdge_eq c.point, rfl, rfl, rfl, ?_⟩
    show winnerWithdrawn sr c s = true ↔ _
    unfold winnerWithdrawn heldBank
    cases sr.bank with
    | none => simp
    | some i => cases h : (s.hv.banks.get i).entries[c.place]? <;> simp [h]
  fallback := fun hw => by
    refine ⟨if sr.grid.on then gridPoint sr.grid sr.cursor else sr.cursor, (Machine.fallback sr).point, rfl, ?_⟩
    unfold resultOf
    rw [hw]
    refine ⟨rfl, clampEdge_eq _, ?_, rfl, rfl, rfl, rfl, ?_, ?_, ?_⟩
    · show (Machine.fallback sr).gridded = sr.grid.on
      simp only [Machine.fallback]
      cases constraintAnchor sr with
      | none => rfl
      | some a => cases h : constrainPoint sr.mode sr.dirs a (if sr.grid.on then gridPoint sr.grid sr.cursor else sr.cursor) <;> simp [h]
    · rintro (h | h) <;> simp [Machine.fallback, constraintAnchor, h]
    · intro a hm ha hc
      simp [Machine.fallback, constraintAnchor, hm, ha, hc]
    · intro a hm ha u hc
      simp [Machine.fallback, constraintAnchor, hm, ha, hc]

/-- The hold identity that it leaves (R53). -/
theorem identifies_identityOf (sr : Search) : Identifies sr (identityOf sr) where
  object := fun c held hw => by
    unfold identityOf
    rw [hw]
    cases h : c.kind <;> simp [SnapKind.isPointKind, h]
  fallback := fun hw => by simp [identityOf, hw]

end Sys2Proof.Machine
end

