-- ==== Sys2Proof/Laws/Rows.lean ====
section
/-! SUPPORT. What each row that executes no directive leaves unchanged when it answers a next state. -/

namespace Sys2Proof.Machine

@[simp] theorem stepNamed_keeps (c : ChannelName) (p : Patterns) :
    (stepNamed c p).cascade = p.cascade ∧ (stepNamed c p).phase = p.phase ∧ (stepNamed c p).frozen = p.frozen := by
  unfold stepNamed Patterns.cascadeStep Patterns.setCascade; (repeat' split) <;> simp

@[simp] theorem answerOrForward_frame (a : Addr) (m : Word) (s : State) :
    ∃ d u, execStrokeRead.answerOrForward a m s = setBus d u s := by
  unfold execStrokeRead.answerOrForward
  split
  · exact ⟨_, _, rfl⟩
  · exact ⟨_, _, rfl⟩

variable {s t : State}

theorem execStrokeRead_frame {a : Addr} {m : Word} (h : execStrokeRead a m s = .next t) :
    t.port = s.port ∧ t.se = s.se ∧ t.cu = s.cu ∧ t.band = s.band ∧ t.dir = s.dir ∧ t.pending = s.pending := by
  simp only [execStrokeRead, Host.Outcome.next.injEq] at h
  obtain ⟨d, u, hw⟩ := answerOrForward_frame a m s
  subst h
  split <;> simp [hw]

theorem execStrokeRead_keeps {a : Addr} {m : Word} (h : execStrokeRead a m s = .next t) :
    t.comp.staged = s.comp.staged ∧ t.comp.style = s.comp.style ∧ t.pat.cascade = s.pat.cascade ∧
    t.pane.mask = s.pane.mask ∧ t.pane.resultLatch = s.pane.resultLatch ∧ t.pane.commitLatch = s.pane.commitLatch ∧
    t.pane.peekLatch = s.pane.peekLatch ∧ t.pane.peek = s.pane.peek ∧ t.flt.last = s.flt.last ∧
    t.flt.seq = s.flt.seq ∧ t.flt.stopCause = s.flt.stopCause ∧ t.flt.latch = s.flt.latch ∧
    t.flt.responses = s.flt.responses ∧ t.flt.watches = s.flt.watches := by
  simp only [execStrokeRead, Host.Outcome.next.injEq] at h
  obtain ⟨d, u, hw⟩ := answerOrForward_frame a m s
  subst h
  split <;> simp [hw]

theorem execChannelReload_frame {c : ChannelName} (h : execChannelReload c s = .next t) :
    t.port = s.port ∧ t.bus = s.bus ∧ t.trk = s.trk ∧ t.hv = s.hv ∧ t.se = s.se ∧ t.cu = s.cu ∧ t.band = s.band ∧
    t.dir = s.dir ∧ t.pane = s.pane ∧ t.flt = s.flt ∧ t.orderChoices = s.orderChoices ∧ t.pending = s.pending := by
  simp only [execChannelReload, Host.Outcome.next.injEq] at h; subst h
  (repeat' split) <;> simp

theorem execChannelReload_keeps {c : ChannelName} (h : execChannelReload c s = .next t) :
    t.pat.cascade = s.pat.cascade ∧ t.pat.phase = s.pat.phase ∧ t.pat.frozen = s.pat.frozen ∧
    t.comp.staged = s.comp.staged ∧ t.comp.serving = s.comp.serving ∧ t.comp.entered = s.comp.entered ∧
    t.comp.style = s.comp.style := by
  simp only [execChannelReload, Host.Outcome.next.injEq] at h; subst h
  (repeat' split) <;> simp

theorem execDashPhaseWrap_frame (h : execDashPhaseWrap s = .next t) :
    t.port = s.port ∧ t.bus = s.bus ∧ t.trk = s.trk ∧ t.hv = s.hv ∧ t.se = s.se ∧ t.cu = s.cu ∧ t.band = s.band ∧
    t.dir = s.dir ∧ t.pane = s.pane ∧ t.flt = s.flt ∧ t.orderChoices = s.orderChoices ∧ t.pending = s.pending := by
  simp only [execDashPhaseWrap, Host.Outcome.next.injEq] at h; subst h
  (repeat' split) <;> simp

theorem execDashPhaseWrap_keeps (h : execDashPhaseWrap s = .next t) :
    t.pat.cascade = s.pat.cascade ∧ t.pat.a = s.pat.a ∧ t.pat.b = s.pat.b ∧ t.pat.frozen = s.pat.frozen ∧
    t.comp.staged = s.comp.staged ∧ t.comp.serving = s.comp.serving ∧ t.comp.entered = s.comp.entered ∧
    t.comp.style = s.comp.style := by
  simp only [execDashPhaseWrap, Host.Outcome.next.injEq] at h; subst h
  (repeat' split) <;> simp

theorem execResultLatchOpen_frame {m : Word} (h : execResultLatchOpen m s = .next t) :
    t.port = s.port ∧ t.trk = s.trk ∧ t.hv = s.hv ∧ t.se = s.se ∧ t.cu = s.cu ∧ t.band = s.band ∧ t.comp = s.comp ∧
    t.pat = s.pat ∧ t.dir = s.dir ∧ t.flt = s.flt ∧ t.orderChoices = s.orderChoices ∧ t.pending = s.pending := by
  simp only [execResultLatchOpen, Host.Outcome.next.injEq] at h; subst h
  unfold hostPaneRead openResultLatch; (repeat' split) <;> simp

theorem execResultLatchOpen_keeps {m : Word} (h : execResultLatchOpen m s = .next t) :
    t.pane.flags = s.pane.flags ∧ t.pane.mask = s.pane.mask ∧ t.pane.commitLatch = s.pane.commitLatch ∧
    t.pane.peekLatch = s.pane.peekLatch ∧ t.pane.peek = s.pane.peek := by
  simp only [execResultLatchOpen, Host.Outcome.next.injEq] at h; subst h
  unfold hostPaneRead openResultLatch; (repeat' split) <;> simp

theorem execResultLastWordRead_frame {m : Word} (h : execResultLastWordRead m s = .next t) :
    t.port = s.port ∧ t.trk = s.trk ∧ t.hv = s.hv ∧ t.se = s.se ∧ t.cu = s.cu ∧ t.band = s.band ∧ t.comp = s.comp ∧
    t.pat = s.pat ∧ t.dir = s.dir ∧ t.flt = s.flt ∧ t.orderChoices = s.orderChoices ∧ t.pending = s.pending := by
  simp only [execResultLastWordRead, Host.Outcome.next.injEq] at h; subst h
  unfold hostPaneRead closeResultLatch; (repeat' split) <;> simp

theorem execResultLastWordRead_keeps {m : Word} (h : execResultLastWordRead m s = .next t) :
    t.pane.mask = s.pane.mask ∧ t.pane.commitLatch = s.pane.commitLatch ∧ t.pane.peekLatch = s.pane.peekLatch ∧
    t.pane.peek = s.pane.peek := by
  simp only [execResultLastWordRead, Host.Outcome.next.injEq] at h; subst h
  unfold hostPaneRead closeResultLatch; (repeat' split) <;> simp

theorem execCommitLatchOpen_frame {m : Word} (h : execCommitLatchOpen m s = .next t) :
    t.port = s.port ∧ t.trk = s.trk ∧ t.hv = s.hv ∧ t.se = s.se ∧ t.cu = s.cu ∧ t.band = s.band ∧ t.comp = s.comp ∧
    t.pat = s.pat ∧ t.dir = s.dir ∧ t.flt = s.flt ∧ t.orderChoices = s.orderChoices ∧ t.pending = s.pending := by
  simp only [execCommitLatchOpen, Host.Outcome.next.injEq] at h; subst h
  unfold hostPaneRead openCommitLatch; (repeat' split) <;> simp

theorem execCommitLatchOpen_keeps {m : Word} (h : execCommitLatchOpen m s = .next t) :
    t.pane.flags = s.pane.flags ∧ t.pane.mask = s.pane.mask ∧ t.pane.resultLatch = s.pane.resultLatch ∧
    t.pane.peekLatch = s.pane.peekLatch ∧ t.pane.peek = s.pane.peek := by
  simp only [execCommitLatchOpen, Host.Outcome.next.injEq] at h; subst h
  unfold hostPaneRead openCommitLatch; (repeat' split) <;> simp

theorem execCommitLastWordRead_frame {m : Word} (h : execCommitLastWordRead m s = .next t) :
    t.port = s.port ∧ t.trk = s.trk ∧ t.hv = s.hv ∧ t.se = s.se ∧ t.cu = s.cu ∧ t.band = s.band ∧ t.comp = s.comp ∧
    t.pat = s.pat ∧ t.dir = s.dir ∧ t.flt = s.flt ∧ t.orderChoices = s.orderChoices ∧ t.pending = s.pending := by
  simp only [execCommitLastWordRead, Host.Outcome.next.injEq] at h; subst h
  unfold hostPaneRead closeCommitLatch; (repeat' split) <;> simp

theorem execCommitLastWordRead_keeps {m : Word} (h : execCommitLastWordRead m s = .next t) :
    t.pane.mask = s.pane.mask ∧ t.pane.resultLatch = s.pane.resultLatch ∧ t.pane.peekLatch = s.pane.peekLatch ∧
    t.pane.peek = s.pane.peek := by
  simp only [execCommitLastWordRead, Host.Outcome.next.injEq] at h; subst h
  unfold hostPaneRead closeCommitLatch; (repeat' split) <;> simp

theorem execPeekLatchOpen_frame {m : Word} (h : execPeekLatchOpen m s = .next t) :
    t.port = s.port ∧ t.trk = s.trk ∧ t.hv = s.hv ∧ t.se = s.se ∧ t.cu = s.cu ∧ t.band = s.band ∧ t.comp = s.comp ∧
    t.pat = s.pat ∧ t.dir = s.dir ∧ t.flt = s.flt ∧ t.orderChoices = s.orderChoices ∧ t.pending = s.pending := by
  simp only [execPeekLatchOpen, Host.Outcome.next.injEq] at h; subst h
  unfold hostPaneRead openPeekLatch; (repeat' split) <;> simp

theorem execPeekLatchOpen_keeps {m : Word} (h : execPeekLatchOpen m s = .next t) :
    t.pane.flags = s.pane.flags ∧ t.pane.mask = s.pane.mask ∧ t.pane.resultLatch = s.pane.resultLatch ∧
    t.pane.commitLatch = s.pane.commitLatch ∧ t.pane.peek = s.pane.peek := by
  simp only [execPeekLatchOpen, Host.Outcome.next.injEq] at h; subst h
  unfold hostPaneRead openPeekLatch; (repeat' split) <;> simp

theorem execPeekLastWordRead_frame {m : Word} (h : execPeekLastWordRead m s = .next t) :
    t.port = s.port ∧ t.trk = s.trk ∧ t.hv = s.hv ∧ t.se = s.se ∧ t.cu = s.cu ∧ t.band = s.band ∧ t.comp = s.comp ∧
    t.pat = s.pat ∧ t.dir = s.dir ∧ t.flt = s.flt ∧ t.orderChoices = s.orderChoices ∧ t.pending = s.pending := by
  simp only [execPeekLastWordRead, Host.Outcome.next.injEq] at h; subst h
  unfold hostPaneRead; (repeat' split) <;> simp

theorem execPeekLastWordRead_keeps {m : Word} (h : execPeekLastWordRead m s = .next t) :
    t.pane.flags = s.pane.flags ∧ t.pane.mask = s.pane.mask ∧ t.pane.resultLatch = s.pane.resultLatch ∧
    t.pane.commitLatch = s.pane.commitLatch := by
  simp only [execPeekLastWordRead, Host.Outcome.next.injEq] at h; subst h
  unfold hostPaneRead; (repeat' split) <;> simp

theorem execSlotArgumentWrite_frame {i : BitVec 4} {k : BitVec 3} {w : Word} (h : execSlotArgumentWrite i k w s = .next t) :
    t.port = s.port ∧ t.trk = s.trk ∧ t.band = s.band ∧ t.pat = s.pat ∧ t.orderChoices = s.orderChoices ∧
    t.pending = s.pending := by
  simp only [execSlotArgumentWrite, Host.Outcome.next.injEq] at h; subst h; simp

theorem execSlotArgumentWrite_keeps {i : BitVec 4} {k : BitVec 3} {w : Word} (h : execSlotArgumentWrite i k w s = .next t) :
    t.cu.source = s.cu.source ∧ t.cu.ox = s.cu.ox ∧ t.cu.oy = s.cu.oy ∧ t.cu.gx = s.cu.gx ∧ t.cu.gy = s.cu.gy ∧
    t.cu.wheel = s.cu.wheel ∧ t.cu.map = s.cu.map ∧ t.pane.mask = s.pane.mask ∧
    t.pane.resultLatch = s.pane.resultLatch ∧ t.pane.commitLatch = s.pane.commitLatch ∧
    t.pane.peekLatch = s.pane.peekLatch ∧ t.pane.peek = s.pane.peek ∧ t.se.search = s.se.search ∧
    t.se.identity = s.se.identity ∧ t.se.snap = s.se.snap ∧ t.se.grid = s.se.grid ∧ t.se.dirs = s.se.dirs ∧
    t.se.mode = s.se.mode ∧ t.se.result.point = s.se.result.point ∧ t.comp.staged = s.comp.staged ∧
    t.comp.serving = s.comp.serving ∧ t.comp.entered = s.comp.entered ∧ t.comp.style = s.comp.style ∧
    t.flt.last = s.flt.last ∧ t.flt.seq = s.flt.seq ∧ t.flt.stopCause = s.flt.stopCause ∧ t.flt.latch = s.flt.latch ∧
    t.flt.responses = s.flt.responses ∧ t.flt.watches = s.flt.watches ∧ t.flt.locates = s.flt.locates ∧
    t.dir.progress = s.dir.progress ∧ t.dir.continuation = s.dir.continuation := by
  simp only [execSlotArgumentWrite, Host.Outcome.next.injEq] at h; subst h; simp

theorem execDirectivePosting_frame {i : BitVec 4} {w : Word} (h : execDirectivePosting i w s = .next t) :
    t.port = s.port ∧ t.trk = s.trk ∧ t.band = s.band ∧ t.pat = s.pat ∧ t.orderChoices = s.orderChoices ∧
    t.pending = s.pending := by
  simp only [execDirectivePosting, Host.Outcome.next.injEq] at h; subst h; simp

theorem execDirectivePosting_keeps {i : BitVec 4} {w : Word} (h : execDirectivePosting i w s = .next t) :
    t.cu.source = s.cu.source ∧ t.cu.ox = s.cu.ox ∧ t.cu.oy = s.cu.oy ∧ t.cu.gx = s.cu.gx ∧ t.cu.gy = s.cu.gy ∧
    t.cu.wheel = s.cu.wheel ∧ t.cu.map = s.cu.map ∧ t.pane.mask = s.pane.mask ∧
    t.pane.resultLatch = s.pane.resultLatch ∧ t.pane.commitLatch = s.pane.commitLatch ∧
    t.pane.peekLatch = s.pane.peekLatch ∧ t.pane.peek = s.pane.peek ∧ t.se.search = s.se.search ∧
    t.se.identity = s.se.identity ∧ t.se.snap = s.se.snap ∧ t.se.grid = s.se.grid ∧ t.se.dirs = s.se.dirs ∧
    t.se.mode = s.se.mode ∧ t.se.result.point = s.se.result.point ∧ t.comp.staged = s.comp.staged ∧
    t.comp.serving = s.comp.serving ∧ t.comp.entered = s.comp.entered ∧ t.comp.style = s.comp.style ∧
    t.flt.last = s.flt.last ∧ t.flt.seq = s.flt.seq ∧ t.flt.stopCause = s.flt.stopCause ∧ t.flt.latch = s.flt.latch ∧
    t.flt.responses = s.flt.responses ∧ t.flt.watches = s.flt.watches ∧ t.flt.locates = s.flt.locates ∧
    t.dir.progress = s.dir.progress ∧ t.dir.continuation = s.dir.continuation := by
  simp only [execDirectivePosting, Host.Outcome.next.injEq] at h; subst h; simp

theorem execMailboxWordWrite_frame {i : BitVec 5} {k : BitVec 2} {w : Word} (h : execMailboxWordWrite i k w s = .next t) :
    t.port = s.port ∧ t.trk = s.trk ∧ t.band = s.band ∧ t.pat = s.pat ∧ t.orderChoices = s.orderChoices ∧
    t.pending = s.pending := by
  simp only [execMailboxWordWrite, Host.Outcome.next.injEq] at h; subst h; simp

theorem execMailboxWordWrite_keeps {i : BitVec 5} {k : BitVec 2} {w : Word} (h : execMailboxWordWrite i k w s = .next t) :
    t.cu.source = s.cu.source ∧ t.cu.ox = s.cu.ox ∧ t.cu.oy = s.cu.oy ∧ t.cu.gx = s.cu.gx ∧ t.cu.gy = s.cu.gy ∧
    t.cu.wheel = s.cu.wheel ∧ t.cu.map = s.cu.map ∧ t.pane.mask = s.pane.mask ∧
    t.pane.resultLatch = s.pane.resultLatch ∧ t.pane.commitLatch = s.pane.commitLatch ∧
    t.pane.peekLatch = s.pane.peekLatch ∧ t.pane.peek = s.pane.peek ∧ t.se.search = s.se.search ∧
    t.se.identity = s.se.identity ∧ t.se.snap = s.se.snap ∧ t.se.grid = s.se.grid ∧ t.se.dirs = s.se.dirs ∧
    t.se.mode = s.se.mode ∧ t.se.result.point = s.se.result.point ∧ t.comp.staged = s.comp.staged ∧
    t.comp.serving = s.comp.serving ∧ t.comp.entered = s.comp.entered ∧ t.comp.style = s.comp.style ∧
    t.flt.last = s.flt.last ∧ t.flt.seq = s.flt.seq ∧ t.flt.stopCause = s.flt.stopCause ∧ t.flt.latch = s.flt.latch ∧
    t.flt.responses = s.flt.responses ∧ t.flt.watches = s.flt.watches ∧ t.flt.locates = s.flt.locates ∧
    t.dir.progress = s.dir.progress ∧ t.dir.continuation = s.dir.continuation := by
  simp only [execMailboxWordWrite, Host.Outcome.next.injEq] at h; subst h; simp

theorem execSample_frame {i : BitVec 5} {w : Word} (h : execSample i w s = .next t) :
    t.port = s.port ∧ t.trk = s.trk ∧ t.band = s.band ∧ t.pat = s.pat ∧ t.orderChoices = s.orderChoices ∧
    t.pending = s.pending := by
  simp only [execSample, Host.Outcome.next.injEq] at h; subst h; simp

theorem execSample_keeps {i : BitVec 5} {w : Word} (h : execSample i w s = .next t) :
    t.cu.source = s.cu.source ∧ t.cu.ox = s.cu.ox ∧ t.cu.oy = s.cu.oy ∧ t.cu.gx = s.cu.gx ∧ t.cu.gy = s.cu.gy ∧
    t.cu.wheel = s.cu.wheel ∧ t.cu.map = s.cu.map ∧ t.pane.mask = s.pane.mask ∧
    t.pane.resultLatch = s.pane.resultLatch ∧ t.pane.commitLatch = s.pane.commitLatch ∧
    t.pane.peekLatch = s.pane.peekLatch ∧ t.pane.peek = s.pane.peek ∧ t.se.search = s.se.search ∧
    t.se.identity = s.se.identity ∧ t.se.snap = s.se.snap ∧ t.se.grid = s.se.grid ∧ t.se.dirs = s.se.dirs ∧
    t.se.mode = s.se.mode ∧ t.se.result.point = s.se.result.point ∧ t.comp.staged = s.comp.staged ∧
    t.comp.serving = s.comp.serving ∧ t.comp.entered = s.comp.entered ∧ t.comp.style = s.comp.style ∧
    t.flt.last = s.flt.last ∧ t.flt.seq = s.flt.seq ∧ t.flt.stopCause = s.flt.stopCause ∧ t.flt.latch = s.flt.latch ∧
    t.flt.responses = s.flt.responses ∧ t.flt.watches = s.flt.watches ∧ t.flt.locates = s.flt.locates ∧
    t.dir.progress = s.dir.progress ∧ t.dir.continuation = s.dir.continuation := by
  simp only [execSample, Host.Outcome.next.injEq] at h; subst h; simp

theorem execWithdrawalWrite_frame {a : Addr} {w : Word} (h : execWithdrawalWrite a w s = .next t) :
    t.port = s.port ∧ t.trk = s.trk ∧ t.band = s.band ∧ t.pat = s.pat ∧ t.orderChoices = s.orderChoices ∧
    t.pending = s.pending := by
  simp only [execWithdrawalWrite, Host.Outcome.next.injEq] at h; subst h; simp

theorem execWithdrawalWrite_keeps {a : Addr} {w : Word} (h : execWithdrawalWrite a w s = .next t) :
    t.cu.source = s.cu.source ∧ t.cu.ox = s.cu.ox ∧ t.cu.oy = s.cu.oy ∧ t.cu.gx = s.cu.gx ∧ t.cu.gy = s.cu.gy ∧
    t.cu.wheel = s.cu.wheel ∧ t.cu.map = s.cu.map ∧ t.pane.mask = s.pane.mask ∧
    t.pane.resultLatch = s.pane.resultLatch ∧ t.pane.commitLatch = s.pane.commitLatch ∧
    t.pane.peekLatch = s.pane.peekLatch ∧ t.pane.peek = s.pane.peek ∧ t.se.search = s.se.search ∧
    t.se.identity = s.se.identity ∧ t.se.snap = s.se.snap ∧ t.se.grid = s.se.grid ∧ t.se.dirs = s.se.dirs ∧
    t.se.mode = s.se.mode ∧ t.se.result.point = s.se.result.point ∧ t.comp.staged = s.comp.staged ∧
    t.comp.serving = s.comp.serving ∧ t.comp.entered = s.comp.entered ∧ t.comp.style = s.comp.style ∧
    t.flt.last = s.flt.last ∧ t.flt.seq = s.flt.seq ∧ t.flt.stopCause = s.flt.stopCause ∧ t.flt.latch = s.flt.latch ∧
    t.flt.responses = s.flt.responses ∧ t.flt.watches = s.flt.watches ∧ t.flt.locates = s.flt.locates ∧
    t.dir.progress = s.dir.progress ∧ t.dir.continuation = s.dir.continuation := by
  simp only [execWithdrawalWrite, Host.Outcome.next.injEq] at h; subst h; simp

theorem execPaneWrite_frame {k : BitVec 6} {w : Word} (h : execPaneWrite k w s = .next t) :
    t.port = s.port ∧ t.trk = s.trk ∧ t.band = s.band ∧ t.pat = s.pat ∧ t.orderChoices = s.orderChoices ∧
    t.pending = s.pending := by
  simp only [execPaneWrite, Host.Outcome.next.injEq] at h; subst h; simp

theorem execPaneWrite_keeps {k : BitVec 6} {w : Word} (h : execPaneWrite k w s = .next t) :
    t.cu.source = s.cu.source ∧ t.cu.ox = s.cu.ox ∧ t.cu.oy = s.cu.oy ∧ t.cu.gx = s.cu.gx ∧ t.cu.gy = s.cu.gy ∧
    t.cu.wheel = s.cu.wheel ∧ t.cu.map = s.cu.map ∧ t.pane.mask = s.pane.mask ∧
    t.pane.resultLatch = s.pane.resultLatch ∧ t.pane.commitLatch = s.pane.commitLatch ∧
    t.pane.peekLatch = s.pane.peekLatch ∧ t.pane.peek = s.pane.peek ∧ t.se.search = s.se.search ∧
    t.se.identity = s.se.identity ∧ t.se.snap = s.se.snap ∧ t.se.grid = s.se.grid ∧ t.se.dirs = s.se.dirs ∧
    t.se.mode = s.se.mode ∧ t.se.result.point = s.se.result.point ∧ t.comp.staged = s.comp.staged ∧
    t.comp.serving = s.comp.serving ∧ t.comp.entered = s.comp.entered ∧ t.comp.style = s.comp.style ∧
    t.flt.last = s.flt.last ∧ t.flt.seq = s.flt.seq ∧ t.flt.stopCause = s.flt.stopCause ∧ t.flt.latch = s.flt.latch ∧
    t.flt.responses = s.flt.responses ∧ t.flt.watches = s.flt.watches ∧ t.flt.locates = s.flt.locates ∧
    t.dir.progress = s.dir.progress ∧ t.dir.continuation = s.dir.continuation := by
  simp only [execPaneWrite, Host.Outcome.next.injEq] at h; subst h; simp

theorem execStartTaken_frame (h : execStartTaken s = .next t) :
    t.port = s.port ∧ t.bus = s.bus ∧ t.trk = s.trk ∧ t.se = s.se ∧ t.cu = s.cu ∧ t.band = s.band ∧ t.comp = s.comp ∧
    t.pat = s.pat ∧ t.dir = s.dir ∧ t.pane = s.pane ∧ t.flt = s.flt ∧ t.orderChoices = s.orderChoices ∧
    t.pending = s.pending := by
  simp only [execStartTaken, Host.Outcome.next.injEq] at h; subst h
  (repeat' split) <;> simp

theorem execEndTaken_frame (h : execEndTaken s = .next t) :
    t.port = s.port ∧ t.bus = s.bus ∧ t.trk = s.trk ∧ t.cu = s.cu ∧ t.band = s.band ∧ t.comp = s.comp ∧
    t.pat = s.pat ∧ t.dir = s.dir ∧ t.flt = s.flt ∧ t.orderChoices = s.orderChoices ∧ t.pending = s.pending := by
  simp only [execEndTaken, Host.Outcome.next.injEq] at h; subst h
  (repeat' split) <;> simp

theorem execEndTaken_keeps (h : execEndTaken s = .next t) :
    t.pane.flags = s.pane.flags ∧ t.pane.mask = s.pane.mask ∧ t.pane.resultLatch = s.pane.resultLatch ∧
    t.pane.commitLatch = s.pane.commitLatch ∧ t.se.result = s.se.result ∧ t.se.identity = s.se.identity ∧
    t.se.snap = s.se.snap ∧ t.se.grid = s.se.grid ∧ t.se.dirs = s.se.dirs ∧ t.se.mode = s.se.mode := by
  simp only [execEndTaken, Host.Outcome.next.injEq] at h; subst h
  (repeat' split) <;> simp

theorem execDiscardTaken_frame (h : execDiscardTaken s = .next t) :
    t.port = s.port ∧ t.bus = s.bus ∧ t.trk = s.trk ∧ t.se = s.se ∧ t.cu = s.cu ∧ t.band = s.band ∧ t.comp = s.comp ∧
    t.pat = s.pat ∧ t.dir = s.dir ∧ t.pane = s.pane ∧ t.flt = s.flt ∧ t.orderChoices = s.orderChoices ∧
    t.pending = s.pending := by
  simp only [execDiscardTaken, Host.Outcome.next.injEq] at h; subst h
  (repeat' split) <;> simp

theorem execSegmentItemTaken_frame (h : execSegmentItemTaken s = .next t) :
    t.port = s.port ∧ t.bus = s.bus ∧ t.trk = s.trk ∧ t.se = s.se ∧ t.cu = s.cu ∧ t.band = s.band ∧ t.comp = s.comp ∧
    t.pat = s.pat ∧ t.dir = s.dir ∧ t.pane = s.pane ∧ t.orderChoices = s.orderChoices ∧ t.pending = s.pending := by
  simp only [execSegmentItemTaken, Host.Outcome.next.injEq] at h; subst h
  (repeat' split) <;> simp [takeSegment]

theorem execSegmentItemTaken_keeps (h : execSegmentItemTaken s = .next t) :
    t.flt.last = s.flt.last ∧ t.flt.seq = s.flt.seq ∧ t.flt.stopCause = s.flt.stopCause ∧ t.flt.latch = s.flt.latch ∧
    t.flt.responses = s.flt.responses ∧ t.flt.watches = s.flt.watches ∧ t.flt.locates = s.flt.locates := by
  simp only [execSegmentItemTaken, Host.Outcome.next.injEq] at h; subst h
  (repeat' split) <;> simp [takeSegment]

theorem execCircleItemTaken_frame (h : execCircleItemTaken s = .next t) :
    t.port = s.port ∧ t.bus = s.bus ∧ t.trk = s.trk ∧ t.se = s.se ∧ t.cu = s.cu ∧ t.band = s.band ∧ t.comp = s.comp ∧
    t.pat = s.pat ∧ t.dir = s.dir ∧ t.pane = s.pane ∧ t.orderChoices = s.orderChoices ∧ t.pending = s.pending := by
  simp only [execCircleItemTaken, Host.Outcome.next.injEq] at h; subst h
  (repeat' split) <;> simp [takeCircle]

theorem execCircleItemTaken_keeps (h : execCircleItemTaken s = .next t) :
    t.flt.last = s.flt.last ∧ t.flt.seq = s.flt.seq ∧ t.flt.stopCause = s.flt.stopCause ∧ t.flt.latch = s.flt.latch ∧
    t.flt.responses = s.flt.responses ∧ t.flt.watches = s.flt.watches ∧ t.flt.locates = s.flt.locates := by
  simp only [execCircleItemTaken, Host.Outcome.next.injEq] at h; subst h
  (repeat' split) <;> simp [takeCircle]

theorem execSearchStart_frame (h : execSearchStart s = .next t) :
    t.port = s.port ∧ t.bus = s.bus ∧ t.trk = s.trk ∧ t.hv = s.hv ∧ t.cu = s.cu ∧ t.band = s.band ∧ t.comp = s.comp ∧
    t.pat = s.pat ∧ t.dir = s.dir ∧ t.pane = s.pane ∧ t.flt = s.flt ∧ t.orderChoices = s.orderChoices ∧
    t.pending = s.pending := by
  simp only [execSearchStart, Host.Outcome.next.injEq] at h; subst h
  simp

theorem execSearchStart_keeps (h : execSearchStart s = .next t) :
    t.se.result = s.se.result ∧ t.se.identity = s.se.identity ∧ t.se.snap = s.se.snap ∧ t.se.grid = s.se.grid ∧
    t.se.dirs = s.se.dirs ∧ t.se.mode = s.se.mode := by
  simp only [execSearchStart, Host.Outcome.next.injEq] at h; subst h
  simp

theorem execEntryExamined_frame (h : execEntryExamined s = .next t) :
    t.port = s.port ∧ t.bus = s.bus ∧ t.trk = s.trk ∧ t.hv = s.hv ∧ t.cu = s.cu ∧ t.band = s.band ∧ t.comp = s.comp ∧
    t.pat = s.pat ∧ t.dir = s.dir ∧ t.pane = s.pane ∧ t.flt = s.flt ∧ t.orderChoices = s.orderChoices ∧
    t.pending = s.pending := by
  simp only [execEntryExamined, Host.Outcome.next.injEq] at h; subst h
  (repeat' split) <;> simp

theorem execEntryExamined_keeps (h : execEntryExamined s = .next t) :
    t.se.presses = s.se.presses ∧ t.se.motion = s.se.motion ∧ t.se.result = s.se.result ∧
    t.se.identity = s.se.identity ∧ t.se.snap = s.se.snap ∧ t.se.grid = s.se.grid ∧ t.se.dirs = s.se.dirs ∧
    t.se.mode = s.se.mode := by
  simp only [execEntryExamined, Host.Outcome.next.injEq] at h; subst h
  (repeat' split) <;> simp

theorem execPassEnd_frame (h : execPassEnd s = .next t) :
    t.port = s.port ∧ t.bus = s.bus ∧ t.trk = s.trk ∧ t.hv = s.hv ∧ t.se = s.se ∧ t.cu = s.cu ∧ t.band = s.band ∧
    t.pat = s.pat ∧ t.dir = s.dir ∧ t.pane = s.pane ∧ t.flt = s.flt ∧ t.orderChoices = s.orderChoices ∧
    t.pending = s.pending := by
  simp only [execPassEnd, Host.Outcome.next.injEq] at h; subst h
  (repeat' split) <;> simp

theorem execPassEnd_keeps (h : execPassEnd s = .next t) :
    t.comp.serving = s.comp.serving ∧ t.comp.entered = s.comp.entered ∧ t.comp.style = s.comp.style := by
  simp only [execPassEnd, Host.Outcome.next.injEq] at h; subst h
  (repeat' split) <;> simp

end Sys2Proof.Machine
end

