-- ==== Sys2Proof/Laws/Words.lean ====
section
/-! SUPPORT. Packed words (13.4, 13.5): a word packed from fields that do not meet has the layout of those fields. -/

namespace Sys2Proof.Machine

/-- Fields of a packed word that do not meet (13.4, 13.5): each within the word, each above or below every later one. -/
def Apart : List (Nat × Nat × Nat) → Prop
  | [] => True
  | f :: rest => 1 ≤ f.2.1 ∧ f.2.2 + f.2.1 ≤ 32 ∧ (∀ g ∈ rest, g.2.2 + g.2.1 ≤ f.2.2 ∨ f.2.2 + f.2.1 ≤ g.2.2) ∧ Apart rest

/-- The bits of one field in its place. -/
theorem getLsbD_packField (v width lo i : Nat) (h : lo + width ≤ 32) :
    (BitVec.ofNat 32 (v % 2 ^ width * 2 ^ lo)).getLsbD i = (decide (lo ≤ i ∧ i < lo + width) && v.testBit (i - lo)) := by
  rw [BitVec.getLsbD_ofNat, Nat.testBit_mul_two_pow, Nat.testBit_mod_two_pow, Bool.eq_iff_iff]
  simp only [Bool.and_eq_true, decide_eq_true_eq]
  constructor
  · rintro ⟨h1, h2, h3, h4⟩; exact ⟨⟨h2, by omega⟩, h4⟩
  · rintro ⟨⟨h1, h2⟩, h3⟩; exact ⟨by omega, h1, by omega, h3⟩

/-- The bits of a packed word. -/
theorem pack_getLsbD {l : List (Nat × Nat × Nat)} (h : Apart l) (i : Nat) :
    (pack l).getLsbD i = l.any fun f => decide (f.2.2 ≤ i ∧ i < f.2.2 + f.2.1) && f.1.testBit (i - f.2.2) := by
  induction l generalizing i with
  | nil => simp [pack]
  | cons f l ih =>
    obtain ⟨v, w, lo⟩ := f
    obtain ⟨h0, h1, h2, h3⟩ := h
    have hd : BitVec.ofNat 32 (v % 2 ^ w * 2 ^ lo) &&& pack l = 0#32 := by
      apply BitVec.eq_of_getLsbD_eq
      intro j hj
      rw [BitVec.getLsbD_and, getLsbD_packField _ _ _ _ h1, ih h3]
      simp only [BitVec.getLsbD_zero, Bool.and_eq_false_iff]
      by_cases hc : lo ≤ j ∧ j < lo + w
      · refine .inr ?_
        rw [List.any_eq_false]
        intro g hg
        have := h2 g hg
        dsimp only at this
        have : ¬ (g.2.2 ≤ j ∧ j < g.2.2 + g.2.1) := by omega
        simp [this]
      · exact .inl (.inl (by simpa using hc))
    simp only [pack]
    rw [BitVec.add_eq_or_of_and_eq_zero _ _ hd, BitVec.getLsbD_or, getLsbD_packField _ _ _ _ h1, ih h3, List.any_cons]

/-- A field of a word, from its bits. -/
theorem wordField_eq (w : Word) (lo n v : Nat)
    (hb : ∀ i, lo ≤ i → i < lo + n → w.getLsbD i = v.testBit (i - lo)) :
    w.toNat / 2 ^ lo % 2 ^ n = v % 2 ^ n := by
  apply Nat.eq_of_testBit_eq
  intro i
  rw [Nat.testBit_mod_two_pow, Nat.testBit_mod_two_pow, Nat.testBit_div_two_pow]
  by_cases hi : i < n
  · have := hb (i + lo) (by omega) (by omega)
    rw [BitVec.getLsbD, show i + lo - lo = i by omega] at this
    simp [hi, this]
  · simp [hi]

/-- The bit j lies in a field. -/
abbrev InField (f : Nat × Nat × Nat) (j : Nat) : Prop := f.2.2 ≤ j ∧ j < f.2.2 + f.2.1

/-- Each of the fields lies within the word. -/
theorem Apart.within {l : List (Nat × Nat × Nat)} (h : Apart l) {f : Nat × Nat × Nat} (hf : f ∈ l) :
    1 ≤ f.2.1 ∧ f.2.2 + f.2.1 ≤ 32 := by
  induction l with
  | nil => cases hf
  | cons a l ih =>
    rcases List.mem_cons.1 hf with rfl | hf
    · exact ⟨h.1, h.2.1⟩
    · exact ih h.2.2.2 hf

/-- In the place of one of the fields, only that field gives a bit. -/
theorem Apart.any_bit {l : List (Nat × Nat × Nat)} (h : Apart l) {f : Nat × Nat × Nat} (hf : f ∈ l) {j : Nat} (hj : InField f j) :
    (l.any fun g => decide (InField g j) && g.1.testBit (j - g.2.2)) = f.1.testBit (j - f.2.2) := by
  induction l with
  | nil => cases hf
  | cons a l ih =>
    rw [List.any_cons]
    rcases List.mem_cons.1 hf with rfl | hf
    · have none : (l.any fun g => decide (InField g j) && g.1.testBit (j - g.2.2)) = false := by
        rw [List.any_eq_false]
        intro g hg
        have := h.2.2.1 g hg
        have : ¬ InField g j := by omega
        simp [this]
      rw [none]
      simp [hj]
    · have := h.2.2.1 f hf
      have : ¬ InField a j := by omega
      rw [ih h.2.2.2 hf]
      simp [this]

/-- A packed word has the layout of its fields. -/
theorem laid_pack {l : List (Nat × Nat × Nat)} (h : Apart l) :
    Laid (pack l) (l.map fun f => (f.2.2 + f.2.1 - 1, f.2.2, f.1)) := by
  constructor
  · intro g hg
    obtain ⟨f, hf, rfl⟩ := List.mem_map.1 hg
    have within := h.within hf
    dsimp only
    rw [show f.2.2 + f.2.1 - 1 + 1 - f.2.2 = f.2.1 by omega]
    apply wordField_eq
    intro j hj1 hj2
    rw [pack_getLsbD h]
    exact h.any_bit hf ⟨hj1, hj2⟩
  · intro i hi hh
    rw [pack_getLsbD h, List.any_eq_false]
    intro f hf
    have := hh _ (List.mem_map.2 ⟨f, hf, rfl⟩)
    dsimp only at this
    have : ¬ (f.2.2 ≤ i ∧ i < f.2.2 + f.2.1) := by omega
    simp [this]

/-- A packed word has the layout that its fields, written as (highest bit, lowest bit, value), give. -/
theorem laid_of_pack {w : Word} {l : List (Nat × Nat × Nat)} (hw : w = pack (l.map fun f => (f.2.2, f.1 + 1 - f.2.1, f.2.1)))
    (hl : ∀ f ∈ l, f.2.1 ≤ f.1) (h : Apart (l.map fun f => (f.2.2, f.1 + 1 - f.2.1, f.2.1))) : Laid w l := by
  have := laid_pack h
  rw [← hw, List.map_map] at this
  convert this using 1
  refine (List.map_id _).symm.trans (List.map_congr_left fun f hf => ?_)
  have := hl f hf
  obtain ⟨a, b, c⟩ := f
  dsimp only at this ⊢
  simp only [Function.comp, id]
  rw [show b + (a + 1 - b) - 1 = a by omega]

/-- A flag bit. -/
theorem bit_eq_toNat (b : Bool) : bit b = b.toNat := by cases b <;> rfl

/-- A bank number code. -/
theorem bankCode_eq (b : Option BankId) : bankCode b = bankNumber b := by
  cases b with
  | none => rfl
  | some b => cases b <;> rfl

/-- A register shown in the low bits of a pane word. -/
theorem setWidth_eq_pack {n : Nat} (v : BitVec n) (h : n ≤ 32) : v.setWidth 32 = pack [(v.toNat, n, 0)] := by
  apply BitVec.eq_of_toNat_eq
  have := v.isLt
  have h2 : 2 ^ n ≤ 2 ^ 32 := Nat.pow_le_pow_right (by decide) h
  simp only [pack, BitVec.toNat_setWidth, BitVec.toNat_add, BitVec.toNat_ofNat]
  rw [Nat.mod_eq_of_lt this]
  simp

/-- The extension bit of a coordinate. -/
theorem extBit_eq (v : Int) : extBit v = (v % 2 ^ 17 / 2 ^ 16).toNat := by
  unfold extBit lowBits
  norm_num
  omega

end Sys2Proof.Machine
end

