-- ==== Sys2Proof/WellFormed.lean ====
section
/-! DEFINITION. Which operands a command may carry: those for which its row's summary is about that command at all. -/

namespace Sys2Proof

/-- A SLOT_ARGUMENT_WRITE names word 1..7 (R159), a MAILBOX_WORD_WRITE names word 0 or 1 (R83), and a SAMPLE's status
word has VALID set (R84). Every other operand may take any value of its type. The meanings are total all the same:
an ill-formed command is the bus write at the address it names. -/
def Instr.wellFormed : Instr → Bool
  | .slotArgumentWrite _ word _ => word != 0#3
  | .mailboxWordWrite _ word _ => word.toNat ≤ 1
  | .sample _ status => status.getLsbD 31
  | .powerOn _ _ => true
  | .resetPinAsserted => true
  | .resetPinReleased _ => true
  | .strokeRead _ _ => true
  | .channelReload _ => true
  | .dashPhaseWrap => true
  | .resultLatchOpen _ => true
  | .resultLastWordRead _ => true
  | .commitLatchOpen _ => true
  | .commitLastWordRead _ => true
  | .peekLatchOpen _ => true
  | .peekLastWordRead _ => true
  | .directivePosting _ _ => true
  | .withdrawalWrite _ _ => true
  | .paneWrite _ _ => true
  | .startTaken => true
  | .endTaken => true
  | .discardTaken => true
  | .segmentItemTaken => true
  | .circleItemTaken => true
  | .searchStart => true
  | .entryExamined => true
  | .searchComplete => true
  | .passEnd => true
  | .faultTaken => true
  | .configure => true
  | .restart => true
  | .resume => true
  | .setResponses => true
  | .clearFaults => true
  | .setWatch => true
  | .freeze => true
  | .thaw => true
  | .setBlink => true
  | .setInput => true
  | .setCursor => true
  | .setButtons => true
  | .setSnap => true
  | .setGrid => true
  | .loadDirections => true
  | .continueDirections => true
  | .setConstraint => true
  | .setAnchor => true
  | .clearAnchor => true
  | .trailAppend => true
  | .trailDrop => true
  | .trailClear => true
  | .setBand => true
  | .setStyle => true
  | .setNotify => true
  | .clearEvents => true
  | .setPeek => true
  | .unknownKind => true

end Sys2Proof
end

