-- ==== Sys2Proof/Tests/Slice0.lean ====
section
/-! SUPPORT. Tests of one command each, on figures that the spec works out, and a witness for the hypotheses of every statement. -/

namespace Sys2Proof.Tests

open Sys2Proof Sys2Proof.Machine

/-! ### Operands -/

/-- Word 0 of a slot is no argument word (R159). -/
theorem test_slotArgumentWrite_word0 : Instr.wellFormed (.slotArgumentWrite 3 0 5) = false := by decide

/-- Word 7 of a slot is one. -/
theorem test_slotArgumentWrite_word7 : Instr.wellFormed (.slotArgumentWrite 3 7 5) = true := by decide

/-- Words 2 and 3 of a mailbox record are not captured (R83). -/
theorem test_mailboxWordWrite_word2 : Instr.wellFormed (.mailboxWordWrite 3 2 5) = false := by decide

theorem test_mailboxWordWrite_word3 : Instr.wellFormed (.mailboxWordWrite 3 3 5) = false := by decide

theorem test_mailboxWordWrite_word1 : Instr.wellFormed (.mailboxWordWrite 3 1 5) = true := by decide

/-- A status write with VALID clear is no sample (R84). -/
theorem test_sample_notValid : Instr.wellFormed (.sample 3 0x40000001) = false := by decide

theorem test_sample_valid : Instr.wellFormed (.sample 3 0xC0000001) = true := by decide

/-! ### Chapter 13, figures -/

/-- "DRAW (1200, 1000), for example, is the word 0x204B03E8." -/
theorem test_draw_word : (Rec.draw ⟨1200, 1000⟩).encode = [0x204B03E8] := by decide

theorem test_draw_decoded : decodeHead 0x204B03E8 = .draw ⟨1200, 1000⟩ := by decide

/-- "CALL word 1 with dx 300 and dy 200 is 0x012C00C8." -/
theorem test_call_offset : callOffset 0x012C00C8 = ⟨300, 200⟩ := by decide

/-- A dx of −5 in bits 28..16. -/
theorem test_call_offset_negative : callOffset 0x1FFB00C8 = ⟨-5, 200⟩ := by decide

/-! ### Chapter 4, worked figures -/

theorem test_round : roundDiv 1010000 20000 = 51 ∧ roundDiv (-990000) 20000 = -50 ∧ roundDiv 7000 103 = 68
    ∧ roundDiv 7500 103 = 73 ∧ roundDiv (-3686400) 65536 = -56 := by decide

theorem test_isqrt : isqrt 0 = 0 ∧ isqrt 2 = 1 ∧ isqrt 3 = 2 ∧ isqrt 106 = 10 ∧ isqrt 111 = 11 ∧ isqrt 2500 = 50
    ∧ isqrt 10525 = 103 := by decide

theorem test_isqrt_largest : isqrt 33538050 = 5791 := by decide

theorem test_tablet_map : clampPt (tabletMap 0 0 4096 4096 36010 20005) = ⟨2251, 1250⟩
    ∧ clampPt (tabletMap 0 0 4096 4096 65535 0) = ⟨4095, 0⟩ ∧ clampEdge (tabletMap 0 0 4096 4096 65535 0) = true
    ∧ clampPt (tabletMap 1000 0 4096 4096 100 100) = ⟨0, 6⟩ ∧ clampEdge (tabletMap 1000 0 4096 4096 100 100) = true := by
  decide

theorem test_nearest_on_segment : nearestOnSegment ⟨2200, 1200⟩ ⟨2300, 1300⟩ ⟨2251, 1250⟩ = ⟨2251, 1251⟩
    ∧ nearestOnSegment ⟨2300, 1300⟩ ⟨2200, 1200⟩ ⟨2251, 1250⟩ = ⟨2250, 1250⟩
    ∧ nearestOnSegment ⟨2200, 1200⟩ ⟨2300, 1300⟩ ⟨2190, 1195⟩ = ⟨2200, 1200⟩ := by decide

theorem test_nearest_on_circle : nearestOnCircle ⟨2000, 2000⟩ 100 ⟨2070, 2075⟩ = ⟨2068, 2073⟩
    ∧ nearestOnCircle ⟨2000, 2000⟩ 100 ⟨2000, 2000⟩ = ⟨2100, 2000⟩ := by decide

theorem test_perpendicular_foot : perpendicularFoot ⟨2000, 1000⟩ ⟨2100, 900⟩ ⟨2100, 1300⟩ = some ⟨2100, 1000⟩ := by decide

theorem test_grid : gridPoint ⟨true, ⟨0, 0⟩, ⟨25, 25⟩⟩ ⟨2403, 1388⟩ = ⟨2400, 1400⟩
    ∧ gridCoord 0 64 32 = 64 ∧ gridCoord 0 64 31 = 0 ∧ gridCoord 500 1000 4095 = 3500 ∧ gridCoord 700 1000 100 = 700 := by
  decide

/-- The isometric table of section 4.4. -/
def isometric : Vector Pt 16 := #v[⟨221, 128⟩, ⟨0, 1⟩, ⟨-221, 128⟩, ⟨-221, -128⟩, ⟨0, -1⟩, ⟨221, -128⟩,
  ⟨0, 0⟩, ⟨0, 0⟩, ⟨0, 0⟩, ⟨0, 0⟩, ⟨0, 0⟩, ⟨0, 0⟩, ⟨0, 0⟩, ⟨0, 0⟩, ⟨0, 0⟩, ⟨0, 0⟩]

theorem test_constraint_isometric :
    constrainPoint .table isometric ⟨1000, 1000⟩ ⟨1200, 1100⟩ = some ⟨1193, 1112⟩ := by decide

theorem test_constraint_ortho_tie :
    constrainPoint .ortho isometric ⟨1000, 1000⟩ ⟨1050, 1050⟩ = some ⟨1050, 1000⟩ := by decide

theorem test_constraint_table :
    constrainPoint .table State.reset.se.dirs ⟨2000, 1000⟩ ⟨2400, 1150⟩ = some ⟨2400, 1000⟩ := by decide

theorem test_constraint_off_screen :
    constrainPoint .table State.reset.se.dirs ⟨4000, 2000⟩ ⟨4095, 2100⟩ = some ⟨4098, 2098⟩ := by decide

theorem test_dashes : dashIntervals 50 20 12 5 = [(0, 7), (15, 27), (35, 47)]
    ∧ dashIntervals 50 20 12 0 = [(0, 12), (20, 32), (40, 50)] := by decide

theorem test_point_along : pointAlong ⟨1000, 1000⟩ ⟨1030, 1040⟩ 50 27 = ⟨1016, 1022⟩
    ∧ pointAlong ⟨1000, 1000⟩ ⟨1030, 1040⟩ 50 7 = ⟨1004, 1006⟩ := by decide

theorem test_band_radius : bandRadius ⟨2000, 2000⟩ ⟨2070, 2075⟩ = 103 := by decide

/-! ### Chapter 7, composition -/

/-- The inputs of the first example of chapter 7. -/
def composition : PassInputs where
  cursor := ⟨2251, 1250⟩
  inRange := true
  resultPoint := ⟨2260, 1255⟩
  resultKind := .object .endpoint
  resultSeq := 21
  anchor := some ⟨2000, 1000⟩
  trail := []
  shape := .line
  period := 0
  onLen := 0
  phase := 0
  markerGate := true
  cursorGate := true
  style := State.reset.comp.style
  windowLen := 256

theorem test_composition : composeList composition = ⟨[.entity 7, .move ⟨2227, 1250⟩, .draw ⟨2275, 1250⟩,
    .move ⟨2251, 1226⟩, .draw ⟨2251, 1274⟩, .entity 5, .move ⟨2254, 1249⟩, .draw ⟨2266, 1249⟩, .draw ⟨2266, 1261⟩,
    .draw ⟨2254, 1261⟩, .draw ⟨2254, 1249⟩, .entity 6, .move ⟨2000, 1000⟩, .draw ⟨2260, 1255⟩, .ret],
    false, false, false, false, false, 0, 21⟩ := by decide

/-- The inputs of the second example of chapter 7, for a window of 32 words. -/
def crowded : PassInputs := { composition with
  resultPoint := ⟨1180, 1000⟩
  anchor := some ⟨1000, 1000⟩
  trail := (List.range 20).map fun k => ⟨1000, 810 + 10 * (k : Int)⟩
  shape := .poly
  period := 20
  onLen := 12
  windowLen := 32 }

theorem test_shedding : (composeList crowded).length = 32 ∧ (composeList crowded).shedDash = true
    ∧ (composeList crowded).shedTrail = true ∧ (composeList crowded).shedCount = 2
    ∧ (composeList crowded).dashCapped = false ∧ (composeList crowded).shedMarker = false := by decide

/-- The same with P = 2 and D = 1: 90 dashes are laid out solid under the cap. -/
theorem test_shedding_capped : (composeList { crowded with period := 2, onLen := 1 }).dashCapped = true
    ∧ (composeList { crowded with period := 2, onLen := 1 }).shedDash = false
    ∧ (composeList { crowded with period := 2, onLen := 1 }).shedCount = 2 := by decide +kernel

/-- The box band of chapter 6 from (2000, 2000) to (1700, 2200). -/
def boxBand : PassInputs := { composition with
  inRange := false
  resultKind := .free
  resultPoint := ⟨1700, 2200⟩
  anchor := some ⟨2000, 2000⟩
  shape := .box }

theorem test_box_band : (composeList boxBand).recs = [.entity 6, .move ⟨2000, 2000⟩, .draw ⟨1700, 2000⟩, .draw ⟨1700, 2200⟩,
    .draw ⟨2000, 2200⟩, .draw ⟨2000, 2000⟩, .ret] := by decide

/-- "The list with no part composed is the empty list": result sequence 0 after result 21. -/
def noParts : PassInputs := { composition with inRange := false, resultKind := .free, shape := .none }

theorem test_no_part : composeList noParts = Composed.emptyList := by decide

/-! ### Chapter 8, blinking -/

/-- The slow cascaded blink of chapter 8 after SET BLINK. -/
def cascaded : Patterns := ⟨true, ⟨44, 149, true, 44, false⟩, ⟨1, 0, false, 1, false⟩, 0, false⟩

/-- The 45th step: the borrow takes counter B from 1 to 0 and counter A from 0 to 255. -/
theorem test_cascade_borrows : ({ cascaded with a := { cascaded.a with count := 0 } }).stepChannels
    = { cascaded with a := { cascaded.a with count := 255 }, b := { cascaded.b with count := 0 } } := by decide

/-- The 151st step turns both outputs ON. -/
theorem test_cascade_turns_on : ({ cascaded with
    a := { cascaded.a with count := 150 }, b := { cascaded.b with count := 0 } }).stepChannels
    = { cascaded with a := { cascaded.a with count := 149, out := true }
                      b := { cascaded.b with count := 0, out := true } } := by decide

/-! ### States for the tests that follow -/

/-- What a command leaves; a command that stopped would leave the state of power-on. -/
def after (c : Instr) (s : State) : State :=
  match Machine.exec c s with
  | .next t => t
  | .fault _ => State.reset
  | .refused _ => State.reset

/-- A directive with the argument words w, in slot 3 with tag 0x11. -/
def entry (kind : BitVec 8) (w : Vector Word 7) : DirEntry := ⟨3, kind, 0x11, w⟩

/-- Seven argument words from their fourteen fields. -/
def fields (f : Fin 14 → Nat) : Vector Word 7 :=
  Vector.ofFn fun i => BitVec.ofNat 32 (65536 * f ⟨2 * i, by omega⟩ + f ⟨2 * i + 1, by omega⟩)

/-- The fields of a list, zero beyond it. -/
def ofList (l : List Nat) : Fin 14 → Nat := fun i => l.getD i.val 0

/-- The state with one directive queued. -/
def queued (e : DirEntry) (s : State) : State := { s with dir := { s.dir with queue := [e] } }

/-- Power-on with the straps of chapter 9's example. -/
def cold : State := { State.reset with port := ⟨2, none, .passive, .power⟩ }

/-- The map of that example. -/
def map0 : RegionMap := ⟨0x04000, 0x06000, 256, 0x06100, 8⟩

/-- ACTIVE with that map. -/
def live : State := { cold with
  port := ⟨2, some map0, .active, .power⟩
  trk := { cold.trk with state := .waiting } }

/-- BYPASS with that map. -/
def bypassed : State := { cold with port := ⟨2, some map0, .bypass, .power⟩ }

/-- TRACKING with a frame open, in the tracker's state k. -/
def tracking (k : Tracker) : State := { live with trk := { k with state := .tracking, frameOpen := true } }

/-! ### Chapter 9: configuring -/

/-- "The mailbox lies inside the window, so the directive is refused with BAD REGION." -/
theorem test_configure_refused :
    (after .configure (queued (entry 1 (fields (ofList [0x400, 0x600, 0, 0x608, 8]))) cold)).dir.progress.reason
      = some .badRegion := by decide

theorem test_configure_accepted :
    (after .configure (queued (entry 1 (fields (ofList [0x400, 0x600, 0, 0x610, 8]))) cold)).port
      = ⟨2, some map0, .active, .power⟩ := by decide

/-! ### Chapter 1: one frame through a subroutine -/

/-- TRACKING in frame 43 after the CALL head word at 0x04003. -/
def aborted : State := tracking { live.trk with
  frames := 43, lastWord := 0x04003, expected := 0x04004, record := some (.call 0x04003 0x05000) }

/-- Steps 1, 3, 5, 8 and 13, the read at 0x04010 that loses track, and the return to 0x04000 that aborts the frame. -/
theorem test_stroke_records :
    (after (.strokeRead 0x04000 0x56000065) { live with
      trk := { live.trk with frames := 41 }
      cu := { live.cu with pos := ⟨430, 320⟩ } }).trk
      = ⟨.tracking, true, 0x04001, none, 0x04000, ⟨0, 0⟩, none, ⟨0, 0⟩, ⟨6, false, 101⟩, [], false, 42⟩
    ∧ (after (.strokeRead 0x04002 0x204B03E8) (tracking { live.trk with
      expected := 0x04002
      current := ⟨1000, 1000⟩
      origin := some ⟨0x04001, 1⟩
      attr := ⟨6, false, 101⟩ })).hv.queue
      = [.segment ⟨1000, 1000⟩ ⟨1200, 1000⟩ ⟨0x04002, 1⟩ (some ⟨0x04001, 1⟩) 101]
    ∧ (after (.strokeRead 0x04004 0x012C00C8) (tracking { live.trk with
      expected := 0x04004
      record := some (.call 0x04003 0x05000)
      attr := ⟨6, false, 101⟩ })).trk
      = ⟨.tracking, true, 0x05000, none, 0x04004, ⟨0, 0⟩, none, ⟨300, 200⟩, ⟨6, false, 101⟩,
        [⟨0x04005, ⟨0, 0⟩, ⟨6, false, 101⟩⟩], false, 0⟩
    ∧ (after (.strokeRead 0x05002 40) (tracking { live.trk with
      expected := 0x05002
      record := some (.circle 0x05001 ⟨100, 100⟩ false)
      offset := ⟨300, 200⟩
      attr := ⟨5, false, 202⟩
      calls := [⟨0x04005, ⟨0, 0⟩, ⟨6, false, 101⟩⟩] })).hv.queue
      = [.circle ⟨400, 300⟩ 40 ⟨0x05001, 2⟩ 202]
    ∧ (after (.strokeRead 0x04007 0x90000000) (tracking { live.trk with expected := 0x04007 })).hv.queue = [.endMark]
    ∧ (after (.strokeRead 0x04010 0) (tracking { live.trk with
      expected := 0x04004
      record := some (.call 0x04003 0x05000) })).flt.raised = [⟨.trackLost, 0x04010, 0⟩]
    ∧ (after (.strokeRead 0x04000 0) aborted).flt.raised = [⟨.frameAborted, 0x04003, 0⟩]
    ∧ (after (.strokeRead 0x04000 0) aborted).hv.queue = [.discard, .start 44 ⟨2048, 2048⟩ 0 false] := by
  decide

/-! ### Chapter 2: one frame into a bank -/

/-- The FILLING bank of the example with H = 256 about (1000, 800), holding l. -/
def filling (l : List Entry) (items : List QItem) (last : Option Pt) : State := { live with
  hv := ⟨items, ⟨Bank.released, Bank.released, ⟨.filling, ⟨57, ⟨1000, 800⟩, 256, 0, false, false⟩, l⟩⟩, last⟩ }

/-- Item 1 appends e0 to e3. -/
theorem test_segment_harvested :
    (after .segmentItemTaken (filling [] [.segment ⟨900, 700⟩ ⟨1100, 700⟩ ⟨0x04002, 1⟩ (some ⟨0x04001, 1⟩) 7] none)).hv
      = (filling [⟨.point .endpoint ⟨900, 700⟩, ⟨0x04002, 1⟩, some ⟨0x04001, 1⟩, 7, false⟩,
          ⟨.point .endpoint ⟨1100, 700⟩, ⟨0x04002, 1⟩, some ⟨0x04001, 1⟩, 7, false⟩,
          ⟨.point .midpoint ⟨1000, 700⟩, ⟨0x04002, 1⟩, some ⟨0x04001, 1⟩, 7, false⟩,
          ⟨.segment ⟨900, 700⟩ ⟨1100, 700⟩, ⟨0x04002, 1⟩, some ⟨0x04001, 1⟩, 7, false⟩] [] (some ⟨1100, 700⟩)).hv := by
  decide

/-- Item 3: the first end is suppressed, the second fails the capture test. -/
theorem test_segment_suppressed :
    (after .segmentItemTaken (filling [] [.segment ⟨1100, 900⟩ ⟨1400, 900⟩ ⟨0x04004, 1⟩ (some ⟨0x04003, 1⟩) 7]
      (some ⟨1100, 900⟩))).hv
      = (filling [⟨.point .midpoint ⟨1250, 900⟩, ⟨0x04004, 1⟩, some ⟨0x04003, 1⟩, 7, false⟩,
          ⟨.segment ⟨1100, 900⟩ ⟨1400, 900⟩, ⟨0x04004, 1⟩, some ⟨0x04003, 1⟩, 7, false⟩] [] (some ⟨1100, 900⟩)).hv := by
  decide

/-- Item 4: the northern quadrant point fails the capture test. -/
theorem test_circle_harvested :
    (after .circleItemTaken (filling [] [.circle ⟨1000, 1000⟩ 100 ⟨0x04005, 2⟩ 7] none)).hv
      = (filling [⟨.point .centre ⟨1000, 1000⟩, ⟨0x04005, 2⟩, none, 7, false⟩,
          ⟨.point .quadrant ⟨1100, 1000⟩, ⟨0x04005, 2⟩, none, 7, false⟩,
          ⟨.point .quadrant ⟨900, 1000⟩, ⟨0x04005, 2⟩, none, 7, false⟩,
          ⟨.point .quadrant ⟨1000, 900⟩, ⟨0x04005, 2⟩, none, 7, false⟩,
          ⟨.circle ⟨1000, 1000⟩ 100, ⟨0x04005, 2⟩, none, 7, false⟩] [] none).hv := by decide

/-- A write to 0x04003 withdraws the entries it is the source or the origin of, and no other. -/
theorem test_write_withdraws :
    ((after (.withdrawalWrite 0x04003 0) (filling [⟨.point .endpoint ⟨1100, 700⟩, ⟨0x04002, 1⟩, some ⟨0x04001, 1⟩, 7, false⟩,
        ⟨.point .endpoint ⟨1100, 900⟩, ⟨0x04003, 1⟩, some ⟨0x04002, 1⟩, 7, false⟩,
        ⟨.point .midpoint ⟨1250, 900⟩, ⟨0x04004, 1⟩, some ⟨0x04003, 1⟩, 7, false⟩] [] none)).hv.banks.e2.entries.map
      Entry.withdrawn) = [false, true, true] := by decide

/-! ### Chapter 3: a search, a hold and a press -/

/-- The CURRENT bank of the example. -/
def bank88 : Bank := ⟨.current, ⟨88, ⟨2240, 1240⟩, 256, 0, false, false⟩,
  [⟨.point .endpoint ⟨2180, 1255⟩, ⟨0x04A10, 1⟩, some ⟨0x04A0F, 1⟩, 55, false⟩,
   ⟨.point .endpoint ⟨2260, 1255⟩, ⟨0x04A10, 1⟩, some ⟨0x04A0F, 1⟩, 55, false⟩,
   ⟨.point .midpoint ⟨2220, 1255⟩, ⟨0x04A10, 1⟩, some ⟨0x04A0F, 1⟩, 55, false⟩,
   ⟨.segment ⟨2180, 1255⟩ ⟨2260, 1255⟩, ⟨0x04A10, 1⟩, some ⟨0x04A0F, 1⟩, 55, false⟩,
   ⟨.point .endpoint ⟨2200, 1200⟩, ⟨0x04A20, 1⟩, some ⟨0x04A1F, 1⟩, 56, false⟩,
   ⟨.point .endpoint ⟨2300, 1300⟩, ⟨0x04A20, 1⟩, some ⟨0x04A1F, 1⟩, 56, false⟩,
   ⟨.point .midpoint ⟨2250, 1250⟩, ⟨0x04A20, 1⟩, some ⟨0x04A1F, 1⟩, 56, false⟩,
   ⟨.segment ⟨2200, 1200⟩ ⟨2300, 1300⟩, ⟨0x04A20, 1⟩, some ⟨0x04A1F, 1⟩, 56, false⟩]⟩

/-- The part at a cursor with that bank CURRENT. -/
def at88 (c : Pt) : State := { live with
  hv := ⟨[], ⟨Bank.released, bank88, Bank.released⟩, none⟩
  cu := { live.cu with pos := c, inRange := true } }

/-- A search of that bank with every entry examined. -/
def searched (r : Request) (c : Pt) (h : Option HoldId) : Search :=
  bank88.entries.foldl (fun sr e => examine e sr) { searchInputs r (at88 c) with cursor := c, identity := h }

/-- The part with that search in flight. -/
def searching (r : Request) (c : Pt) (h : Option HoldId) : State :=
  { at88 c with se := { (at88 c).se with search := some (searched r c h) } }

/-- The identity that search 1 leaves. -/
def hold1 : HoldId := ⟨0x04A10, .endpoint, some ⟨2260, 1255⟩⟩

/-- Search 1: the four contenders kept, with their squared distances. -/
theorem test_search_kept : (searched .motion ⟨2251, 1250⟩ none).kept.map (fun c => (c.kind, c.point, c.d2))
    = [(.endpoint, ⟨2260, 1255⟩, 106), (.nearest, ⟨2251, 1255⟩, 25), (.midpoint, ⟨2250, 1250⟩, 1),
      (.nearest, ⟨2251, 1251⟩, 1)] := by decide

/-- Search 1: the ENDPOINT wins despite the larger distance. Search 2: the hold candidate wins from outside the aperture. -/
theorem test_search_motion :
    (after .searchComplete (searching .motion ⟨2251, 1250⟩ none)).se.result
      = ⟨1, false, .object .endpoint, ⟨2260, 1255⟩, ⟨2251, 1250⟩, 106, some (0x04A10, 55), 88, false, false, false, false,
        false, false, false⟩
    ∧ (after .searchComplete (searching .motion ⟨2251, 1250⟩ none)).se.identity = some hold1
    ∧ (after .searchComplete (searching .motion ⟨2254, 1244⟩ (some hold1))).se.result
      = ⟨1, false, .object .endpoint, ⟨2260, 1255⟩, ⟨2254, 1244⟩, 157, some (0x04A10, 55), 88, false, false, false, true,
        false, false, false⟩ := by
  decide

/-- Search 1, entry e1 with its NEAREST neighbour not yet examined. -/
theorem test_entry_examined :
    ((after .entryExamined { at88 ⟨2251, 1250⟩ with
      se := { live.se with search := some { searchInputs .motion (at88 ⟨2251, 1250⟩) with next := 1 } } }).se.search.map
        fun sr => (sr.next, sr.kept.length)) = some (2, 1) := by decide

/-- A search starts at the cursor with the CURRENT bank held. -/
theorem test_search_starts :
    ((after .searchStart { at88 ⟨2251, 1250⟩ with se := { live.se with motion := true } }).se.search.map
      fun sr => (sr.cursor, sr.bank, sr.aperture)) = some (⟨2251, 1250⟩, some .b1, 12) := by decide

/-! ### Chapter 2: the banks -/

/-- Promotion at the completion of a search: the READY bank becomes CURRENT. -/
theorem test_promotion :
    (after .endTaken { live with hv := ⟨[.endMark], ⟨{ bank88 with state := .current },
      { bank88 with state := .filling }, Bank.released⟩, none⟩ }).hv
      = ⟨[], ⟨Bank.released, bank88, Bank.released⟩, none⟩ := by decide

/-- R29: a completion with a request pending starts the next search on the old CURRENT bank before an END is taken, so that the new
bank waits as READY. -/
theorem test_promotion_waits :
    ∃ t, t = after .endTaken (after .searchComplete { searching .motion ⟨2251, 1250⟩ none with
        hv := ⟨[.endMark], ⟨{ bank88 with state := .filling }, bank88, Bank.released⟩, none⟩
        se := { (searching .motion ⟨2251, 1250⟩ none).se with presses := [⟨⟨2243, 1250⟩, 1⟩] } })
      ∧ t.hv.banks = ⟨{ bank88 with state := .ready }, bank88, Bank.released⟩
      ∧ t.se.search.map Search.bank = some (some .b1) :=
  ⟨_, rfl, by decide, by decide⟩

/-- START takes the lowest-numbered EMPTY bank. -/
theorem test_start_taken :
    ((after .startTaken { live with hv := ⟨[.start 57 ⟨1000, 800⟩ 0 false], ⟨bank88, Bank.released, Bank.released⟩,
      none⟩ }).hv.banks.e1) = ⟨.filling, ⟨57, ⟨1000, 800⟩, 256, 0, false, false⟩, []⟩ := by decide

/-- DISCARD releases the FILLING bank. -/
theorem test_discard_taken : (after .discardTaken (filling [] [.discard] none)).hv = Harvester.emptied := by decide

/-! ### Chapter 5: a lap of the ring -/

/-- ACTIVE with a mailbox of four records, a search in flight, and words 0 and 1 written to every record. -/
def ring (c : CursorUnit) (w0 w1 : Word) (se : SearchEngine) : State := { live with
  port := { live.port with config := some { map0 with records := 4 } }
  cu := { c with source := .tablet, capture := Vector.replicate 32 (w0, w1) }
  se := { se with search := some (searchInputs .motion live) } }

/-- Step 1: the cursor moves into proximity. Step 3: the edge of button 0 files a PRESS and removes the MOTION. -/
theorem test_sample_tablet :
    (after (.sample 0 0xC0000001) (ring live.cu 0x8CAA4E25 0 live.se)).cu
      = { (ring live.cu 0x8CAA4E25 0 live.se).cu with pos := ⟨2251, 1250⟩, inRange := true, ring := 1 }
    ∧ (after (.sample 2 0xC0000001) (ring { live.cu with pos := ⟨2254, 1244⟩, inRange := true, prev := 2, ring := 2 }
      0x8CDA4DC5 3 { live.se with motion := true })).se
      = (ring live.cu 0 0 { live.se with presses := [⟨⟨2254, 1244⟩, 1⟩] }).se := by
  decide

/-- Step 5: record 1 out of turn raises MAILBOX ORDER with detail 1, and the index moves to 2. The wheels of section 4.2. -/
theorem test_sample_order :
    (after (.sample 1 0xC0000001) (ring live.cu 0x8C284E25 1 live.se)).flt.raised = [⟨.mailboxOrder, 1, 0⟩]
      ∧ (after (.sample 1 0xC0000001) (ring live.cu 0x8C284E25 1 live.se)).cu.ring = 2
      ∧ (after (.sample 1 0xC0000001) (ring live.cu 0x8C284E25 1 live.se)).cu.pos = ⟨2243, 1250⟩
    ∧ (after (.sample 0 0x80000002) { live with cu := { live.cu with
      source := .wheels, wheel := 4, pos := ⟨2251, 1250⟩, inRange := true
      capture := Vector.replicate 32 (0, 0x05FD0000) } }).cu.pos = ⟨2271, 1238⟩ := by
  decide

/-- Words 0 and 1 of a record are captured. -/
theorem test_mailbox_word :
    (after (.mailboxWordWrite 7 1 0x05FD0003) live).cu.capture[7] = (0, 0x05FD0003) := by decide

/-! ### Chapter 5: the DIRECTED source -/

/-- The part of the example, with buttons 0 COMMIT and 2 ANCHOR. -/
def directed (c : Pt) : State := { live with cu := { live.cu with
  source := .directed, pos := c, inRange := true, map := #v[some .commit, none, some .anchor, none] } }

/-- Refused with WRONG SOURCE under another source; clamped to the screen under DIRECTED. -/
theorem test_setCursor_moves :
    (after .setCursor (queued (entry 11 (fields (ofList [100, 100, 0]))) live)).dir.progress.reason = some .wrongSource
    ∧ (after .setCursor (queued (entry 11 (fields (ofList [5000, 300, 0]))) (directed ⟨2243, 1250⟩))).cu
      = { (directed ⟨4095, 300⟩).cu with edge := true } := by
  decide

theorem test_setCursor_presses :
    (after .setCursor (queued (entry 11 (fields (ofList [4000, 300, 5]))) (directed ⟨4095, 300⟩))).se.presses
      = [⟨⟨4000, 300⟩, 1⟩, ⟨⟨4000, 300⟩, 4⟩] := by decide

/-- SET INPUT to source 3: no event when the proximity was already IN. -/
theorem test_setInput :
    (after .setInput (queued (entry 10 (fields (ofList [3, 0, 0, 4096, 4096, 1])))
      { directed ⟨2243, 1250⟩ with cu := { (directed ⟨2243, 1250⟩).cu with source := .tablet, prev := 1 } })).cu
      = (directed ⟨2243, 1250⟩).cu := by decide

theorem test_setButtons :
    (after .setButtons (queued (entry 12 (fields (ofList [1, 0, 2, 9]))) live)).cu.map
      = #v[some .commit, none, some .anchor, some .clear] := by decide

/-! ### Chapter 6: the polyline -/

/-- The part with a trail and an anchor. -/
def drawn (trail : List Pt) (anchor : Option Anchor) : State :=
  { live with band := { live.band with trail := trail, anchor := anchor } }

/-- Step 3. -/
theorem test_trailDrop :
    (after .trailDrop (queued (entry 21 (fields (ofList []))) (drawn [⟨1000, 1000⟩, ⟨1400, 1000⟩]
      (some ⟨⟨1400, 1000⟩, true⟩)))).band = (drawn [⟨1000, 1000⟩] (some ⟨⟨1000, 1000⟩, true⟩)).band := by decide

/-- Step 6. -/
theorem test_trailAppend :
    (after .trailAppend (queued (entry 20 (fields (ofList [2000, 1500]))) (drawn [⟨1000, 1000⟩]
      (some ⟨⟨2000, 1500⟩, false⟩)))).band
      = (drawn [⟨1000, 1000⟩, ⟨2000, 1500⟩] (some ⟨⟨2000, 1500⟩, true⟩)).band := by decide

/-- A TRAIL APPEND at 32 vertices is refused with TRAIL FULL. -/
theorem test_trailAppend_full :
    (after .trailAppend (queued (entry 20 (fields (ofList [2000, 1500]))) (drawn (List.replicate 32 ⟨1000, 1000⟩)
      none))).dir.progress.reason = some .trailFull := by decide

/-- TRAIL CLEAR leaves a FREE anchor as it stands. -/
theorem test_trailClear :
    (after .trailClear (queued (entry 22 (fields (ofList []))) (drawn [⟨1000, 1000⟩] (some ⟨⟨2000, 1500⟩, false⟩)))).band
      = (drawn [] (some ⟨⟨2000, 1500⟩, false⟩)).band := by decide

theorem test_setAnchor :
    (after .setAnchor (queued (entry 18 (fields (ofList [5000, 0xFFFF]))) live)).band.anchor = some ⟨⟨4095, 0⟩, false⟩ := by
  decide

theorem test_clearAnchor :
    (after .clearAnchor (queued (entry 19 (fields (ofList []))) (drawn [] (some ⟨⟨5, 5⟩, false⟩)))).band.anchor = none := by
  decide

/-- SET BAND with P = 20 sets φ to 19. -/
theorem test_setBand :
    (after .setBand (queued (entry 23 (fields (ofList [4, 20, 12, 1]))) live)).pat.phase = 19
      ∧ (after .setBand (queued (entry 23 (fields (ofList [4, 20, 12, 1]))) live)).band.shape = .poly := by decide

/-! ### Chapter 4: settings -/

/-- LOAD DIRECTIONS of the example: five entries from 0, and the continuation index 5. -/
theorem test_loadDirections :
    (after .loadDirections (queued (entry 15 (fields (ofList [0, 5, 221, 128, 0, 1, 0xFF23, 128, 0xFF23, 0xFF80, 0, 0xFFFF])))
      live)).se.dirs.toList.take 5 = [⟨221, 128⟩, ⟨0, 1⟩, ⟨-221, 128⟩, ⟨-221, -128⟩, ⟨0, -1⟩] := by decide

theorem test_loadDirections_range :
    (after .loadDirections (queued (entry 15 (fields (ofList [12, 5]))) live)).dir.progress.reason = some .indexRange := by
  decide

theorem test_continueDirections :
    (after .continueDirections (queued (entry 16 (fields (ofList [3, 221, 0xFF80])))
      { live with dir := { live.dir with continuation := some 5 } })).dir.continuation = some 8 := by decide

theorem test_continueDirections_absent :
    (after .continueDirections (queued (entry 16 (fields (ofList [2]))) live)).dir.progress.reason = some .noContinuation := by
  decide

theorem test_setConstraint : (after .setConstraint (queued (entry 17 (fields (ofList [3]))) live)).se.mode = .ortho := by
  decide

/-- Chapter 10: SET GRID with the words of slot 3. -/
theorem test_setGrid :
    (after .setGrid (queued (entry 14 #v[0x00010000, 0x00000019, 0x00190000, 0, 0, 0, 0]) live)).se.grid
      = ⟨true, ⟨0, 0⟩, ⟨25, 25⟩⟩ := by decide

theorem test_setSnap :
    (after .setSnap (queued (entry 13 (fields (ofList [9, 4, 5, 3, 1, 0, 300, 20, 99]))) live)).se.snap
      = ⟨⟨7, 4, 5, 3, 1, 0⟩, 255, 271, 64⟩ := by decide

theorem test_setStyle :
    (after .setStyle (queued (entry 24 (fields (ofList [2, 0, 99, 8, 3, 1]))) live)).comp.style = ⟨.box, 1, 64, 7, 3, 1⟩ := by
  decide

/-! ### Chapter 7: latching -/

/-- The part with a staged list A. -/
def staged (frozen : Bool) : State := { live with
  comp := { live.comp with staged := composeList composition }
  pat := { live.pat with frozen := frozen } }

/-- A pass ends: the list of its inputs is staged. -/
theorem test_passEnd :
    (after .passEnd { live with comp := { live.comp with pass := some composition } }).comp.staged = composeList composition := by
  decide

/-! ### Chapter 8: a short blink, a march and a freeze -/

/-- Channels as at step s of the table: counter and output A, and φ. -/
def blinking (count : Nat) (out : Bool) (phase : Nat) : State := { live with
  band := { live.band with period := 4, onLen := 2, march := true }
  pat := ⟨false, ⟨3, 1, true, count, out⟩, ⟨0, 0, true, 0, true⟩, phase, false⟩ }

/-- Step 1: the preset turns output A OFF and triggers a pass. -/
theorem test_setBlink :
    (after .setBlink (queued (entry 9 (fields (ofList [0, 3, 1, 0, 0, 1, 1, 1]))) (blinking 2 true 3))).pat
      = (blinking 3 false 3).pat := by decide

theorem test_channelReload : (after (.channelReload .a) (blinking 0 true 2)).pat = (blinking 3 false 2).pat := by decide

theorem test_dashPhaseWrap : (after .dashPhaseWrap (blinking 2 true 0)).pat = (blinking 2 true 3).pat := by decide

/-- FREEZE in BYPASS is refused with NOT ACTIVE. -/
theorem test_freeze : (after .freeze (queued (entry 7 (fields (ofList []))) live)).pat.frozen = true
    ∧ (after .freeze (queued (entry 7 (fields (ofList []))) bypassed)).dir.progress.reason = some .notActive := by decide

theorem test_thaw : (after .thaw (queued (entry 8 (fields (ofList []))) (staged true))).pat.frozen = false := by decide

/-! ### Chapter 10: directives -/

/-- Posting a SET GRID in slot 3 with tag 0x11, its arguments from the shadow. -/
theorem test_posting :
    (after (.directivePosting 3 0x0E110000) { live with dir := { live.dir with
      shadow := live.dir.shadow.set 21 0x00010000 } }).dir.queue
      = [entry 14 #v[0x00010000, 0, 0, 0, 0, 0, 0]] := by decide

/-- With 16 entries queued a posting is lost with QUEUE OVERFLOW, detail its slot number. -/
theorem test_posting_lost :
    (after (.directivePosting 5 0x0E110000) { live with dir := { live.dir with
      queue := List.replicate 16 (entry 7 (fields (ofList []))) } }).flt.raised = [⟨.queueOverflow, 5, 0x11⟩] := by decide

theorem test_slot_argument : (after (.slotArgumentWrite 3 2 0x19) cold).dir.shadow[22] = 0x19 := by decide

/-- A held head waits: SET GRID does not run during a search. -/
theorem test_held :
    (after .setGrid (queued (entry 14 (fields (ofList [1]))) (searching .motion ⟨2251, 1250⟩ none))).dir.queue.length = 1 := by
  decide

/-- Search 3: the hold does not apply, and the press commits the MIDPOINT. The fallback of the second example: the grid, and then
the constraint. A held SET GRID runs at completion (chapter 10). -/
theorem test_search_press :
    (after .searchComplete (searching (.press ⟨⟨2243, 1250⟩, 1⟩) ⟨2243, 1250⟩ (some hold1))).band.trail
      = [⟨2250, 1250⟩]
    ∧ (after .searchComplete { live with se := { live.se with search := some { searchInputs .motion live with
      cursor := ⟨2403, 1388⟩, bank := none, anchor := some ⟨2000, 1000⟩, mode := .table
      grid := ⟨true, ⟨0, 0⟩, ⟨25, 25⟩⟩ } } }).se.result
      = ⟨1, false, .constrained, ⟨2400, 1400⟩, ⟨2403, 1388⟩, 0, none, 0, true, false, false, false, true, false, true⟩
    ∧ (after .searchComplete (queued (entry 14 (fields (ofList [1]))) (searching .motion ⟨2251, 1250⟩ none))).se.grid.on = true := by
  decide

/-- Kind 0x2C is refused with reason 1, tag 0x14, and DRAINED is set. -/
theorem test_unknown_kind :
    (after .unknownKind (queued ⟨6, 0x2C, 0x14, fields (ofList [])⟩ live)).flt.raised = [⟨.refused, 1, 0x14⟩]
      ∧ (after .unknownKind (queued ⟨6, 0x2C, 0x14, fields (ofList [])⟩ live)).pane.flags = 0x180 := by decide

/-! ### Chapter 11: the pane -/

/-- Steps 1 and 4: the latch opens on sequence 300, and its last word closes it and clears RESULT READY. -/
theorem test_result_latch :
    ((after (.resultLatchOpen 0) { live with se := { live.se with result := { live.se.result with seq := 300 } } }).pane.resultLatch.map
      Result.seq) = some 300
    ∧ (after (.resultLastWordRead 0) { live with pane := { live.pane with flags := 1 } }).pane.flags = 0 := by decide

theorem test_commit_latch :
    (after (.commitLatchOpen 0) live).pane.commitLatch = some live.band.commit
    ∧ (after (.commitLastWordRead 0) { live with pane := { live.pane with flags := 3 } }).pane.flags = 1 := by decide

/-- Walking the bank: the last word advances the pointer; with the latch closed it stays. -/
theorem test_peek_walk :
    (after (.peekLastWordRead 0) { at88 ⟨0, 0⟩ with pane := { live.pane with peekLatch := some ⟨14, none⟩, peek := 14 } }).pane.peek
      = 15
    ∧ (after (.peekLastWordRead 0) (at88 ⟨0, 0⟩)).pane.peek = 0 := by decide

theorem test_peek_open :
    ((after (.peekLatchOpen 0) (at88 ⟨0, 0⟩)).pane.peekLatch.bind PeekCopy.entry) = bank88.entries[0]? := by decide

theorem test_pane_write : after (.paneWrite 10 7) live = { live with bus := ⟨some (.write 0x0808A 7), none⟩ } := by decide

theorem test_setNotify : (after .setNotify (queued (entry 25 (fields (ofList [0x3FF]))) live)).pane.mask = 0x1FF := by decide

/-- CLEAR EVENTS as the last entry clears even the DRAINED it sets. -/
theorem test_clearEvents :
    (after .clearEvents (queued (entry 26 (fields (ofList [0x1FF]))) live)).pane.flags = 0 := by decide

theorem test_setPeek : (after .setPeek (queued (entry 27 (fields (ofList [2000]))) live)).pane.peek = 1023 := by decide

/-! ### Chapter 12: faults -/

/-- Step 1: the overread at offset 15 stops the part. -/
def overread : State := { live with
  trk := { live.trk with frames := 700 }
  flt := { live.flt with seq := 9, latch := 4, raised := [⟨.windowOverread, 15, 0⟩] } }

theorem test_fault_stops : (after .faultTaken overread).flt.stopCause = some ⟨.windowOverread, 15, 0, 700, 10⟩
    ∧ (after .faultTaken overread).flt.latch = 0x1004 ∧ (after .faultTaken overread).port.op = .bypass
    ∧ (after .faultTaken overread).pane.flags = 0x30 := by decide

/-- Step 2. -/
theorem test_resume : (after .resume (queued (entry 3 (fields (ofList []))) bypassed)).port.op = .active
    ∧ (after .resume (queued (entry 3 (fields (ofList []))) bypassed)).trk.state = .waiting := by decide

/-- Step 4. -/
theorem test_setResponses :
    (after .setResponses (queued (entry 4 (fields (ofList [0, 0, 0, 0, 0]))) bypassed)).flt.responses
      = ⟨false, false, false, false, false⟩ := by decide

/-- Step 6. -/
theorem test_clearFaults : (after .clearFaults (queued (entry 5 (fields (ofList [])))
    { bypassed with flt := { bypassed.flt with latch := 0x1104 } })).flt.latch = 0 := by decide

/-- Locating: SET WATCH 0 at 0x05003 with action LOCATE. -/
theorem test_setWatch :
    (after .setWatch (queued (entry 6 (fields (ofList [0, 0, 0x5003, 2, 1]))) live)).flt.watches.e0
      = ⟨true, 0x05003, .locate⟩ := by decide

/-- The first identity word answers 0x08080 in PASSIVE (chapter 9); offset 0 latches the staged list, nothing while FROZEN, and an
entry at offset 5 is WINDOW ENTRY (chapter 7); steps 3 and 9 of chapter 8; the watch on the DRAW (150, 100) (chapter 12). -/
theorem test_stroke_answers :
    (after (.strokeRead 0x08080 5) cold).bus = ⟨none, some (paneWord cold 0)⟩
    ∧ (after (.strokeRead 0x06000 0) (staged false)).bus = ⟨none, some 0x57010000⟩
    ∧ (after (.strokeRead 0x06000 0) (staged true)).bus = ⟨none, some 0x70000000⟩
    ∧ (after (.strokeRead 0x06005 0) (staged false)).flt.raised = [⟨.windowEntry, 5, 0⟩]
    ∧ (after (.strokeRead 0x04000 0) (blinking 2 false 2)).pat = (blinking 1 true 1).pat
      ∧ (after (.strokeRead 0x04000 0) (blinking 0 true 0)).pat = (blinking 3 false 3).pat
    ∧ (after (.strokeRead 0x05003 0x20096064) { tracking { live.trk with
      expected := 0x05003
      current := ⟨400, 300⟩
      offset := ⟨300, 200⟩
      attr := ⟨5, false, 202⟩
      calls := [⟨0x04005, ⟨0, 0⟩, ⟨6, false, 101⟩⟩] } with
      flt := { live.flt with watches := ⟨⟨true, 0x05003, .locate⟩, ⟨true, 0x04000, .note⟩⟩ } }).flt.locates.e0
      = .known ⟨450, 300⟩ 1 202 := by
  decide

/-! ### Resets -/

theorem test_powerOn : (after (.powerOn 63 false) live).port = ⟨63, none, .disabled, .power⟩
    ∧ (after (.powerOn 2 true) live).port.op = .transparent := by decide

theorem test_pin : (after .resetPinAsserted live).port = ⟨2, some map0, .transparent, .power⟩
    ∧ (after (.resetPinReleased 1) (after .resetPinAsserted live)).port = ⟨1, none, .passive, .pin⟩ := by decide

theorem test_restart : (after .restart (queued (entry 2 (fields (ofList []))) live)).port = ⟨2, some map0, .active, .restart⟩ := by
  decide

/-! ### The queue of commands -/

theorem test_step_front : Machine.step { live with pending := [.thaw, .freeze] } = .next { live with pending := [.freeze] } := rfl

theorem test_step_idles : Machine.step live = .next live := rfl

/-! ### Witnesses: states and operands that meet the hypotheses of the statements -/

/-- The state with the part in an operating state. -/
def inOp (op : OpState) (s : State) : State := { s with port := { s.port with op := op } }

/-- ACTIVE with the source WHEELS. -/
def wheeled : State := { live with cu := { live.cu with source := .wheels } }

/-- ACTIVE with the tracker LOST. -/
def lost : State := { live with trk := { live.trk with state := .lost } }

/-- ACTIVE with n geometry items queued. -/
def crowdedQueue (n : Nat) : State :=
  { live with hv := { live.hv with queue := List.replicate n (.circle ⟨0, 0⟩ 1 ⟨0, 2⟩ 0) } }

/-- ACTIVE with n presses pending. -/
def pressed (n : Nat) : State := { live with se := { live.se with presses := List.replicate n ⟨⟨0, 0⟩, 1⟩ } }

/-- ACTIVE with n directives queued. -/
def posted (n : Nat) : State :=
  { live with dir := { live.dir with queue := List.replicate n ⟨3, 7, 0x11, Vector.replicate 7 0⟩ } }

/-- TRACKING with n calls open, expecting 0x05000. -/
def nested (n : Nat) : State := tracking { live.trk with
  expected := 0x05000
  calls := List.replicate n ⟨0, ⟨0, 0⟩, ⟨7, false, 0⟩⟩ }

/-- TRACKING with word 1 of a call expected at 0x05000. -/
def calling : State := tracking { live.trk with expected := 0x05000, record := some (.call 0x04FFF 0x06000) }

/-- TRACKING after the frame has ended. -/
def ended : State := { live with trk := { live.trk with state := .tracking, expected := 0x04000 } }

/-- A peek latch left open on the last pointer value. -/
def peeking : State := { live with pane := { live.pane with peekLatch := some ⟨1024, none⟩, peek := 1024 } }

theorem observes_live : Observes live := .inr (.inl rfl)

theorem observes_cold : Observes cold := .inl rfl

theorem observes_bypassed : Observes bypassed := .inr (.inr rfl)

theorem not_observes (s : State) (h : s.port.op = .disabled ∨ s.port.op = .transparent) : ¬ Observes s := by
  rcases h with h | h <;> simp [Observes, h]

/-- A queued directive stands at the head. -/
theorem atHead_queued (e : DirEntry) (s : State) (h : Observes s) : AtHead e.kind e [] (queued e s) := ⟨rfl, rfl, h⟩

theorem map0_formed : map0.Formed := by simp [RegionMap.Formed, map0]

/-- A map whose regions end at the top of the address space. -/
def mapTop : RegionMap := ⟨0x04000, 0xFFC00, 1024, 0xFFB80, 32⟩

theorem mapTop_formed : mapTop.Formed := by simp [RegionMap.Formed, mapTop]

theorem map0_fits : map0.Fits 2 := by
  constructor <;> simp [RegionMap.Meets, RegionMap.InWindow, RegionMap.InMailbox, InStrapBlock, map0] <;> omega

theorem mapTop_fits : mapTop.Fits 2 := by
  constructor <;> simp [RegionMap.Meets, RegionMap.InWindow, RegionMap.InMailbox, InStrapBlock, mapTop] <;> omega

theorem placed_live (s : State) (h : s.port.config = some map0) (hs : s.port.strap = 2) : Placed map0 s :=
  ⟨h, map0_formed, by rw [hs]; exact map0_fits⟩

/-- The release of a held pin: strap value 63, a map that meets the new strap block, one that does not, and none held. -/
theorem witness_ResetPinReleased :
    (inOp .transparent live).port.op = .transparent
    ∧ (∀ m, (inOp .transparent live).port.config = some m → m.Formed)
    ∧ (1#6 ≠ 63#6 ∧ map0.Meets 1#6) ∧ (2#6 ≠ 63#6 ∧ ¬ map0.Meets 2#6) ∧ (inOp .transparent cold).port.config = none := by
  refine ⟨rfl, ?_, ⟨by decide, 0x4000, ?_⟩, ⟨by decide, map0_fits.strapFree⟩, rfl⟩
  · intro m h
    cases h
    exact map0_formed
  · simp [InStrapBlock, RegionMap.InWindow, RegionMap.InMailbox, map0]

theorem witness_StrapsSampledAtResets :
    (inOp .transparent live).port.op = .transparent
    ∧ (∃ t, Machine.exec .passEnd live = .next t) ∧ (∀ b held, Instr.passEnd ≠ .powerOn b held)
    ∧ (∀ b, Instr.passEnd ≠ .resetPinReleased b) :=
  ⟨rfl, ⟨_, rfl⟩, fun _ _ h => (nomatch h), fun _ h => (nomatch h)⟩

theorem witness_ResetPinAsserted : live.flt.raised = [] := rfl

/-- With a configuration held, and with none. -/
theorem witness_RestartResets :
    AtHead 2 (entry 2 (fields (ofList []))) [] (queued (entry 2 (fields (ofList []))) live)
    ∧ live.port.config.isSome = true
    ∧ AtHead 2 (entry 2 (fields (ofList []))) [] (queued (entry 2 (fields (ofList []))) cold) ∧ cold.port.config = none :=
  ⟨atHead_queued _ _ observes_live, rfl, atHead_queued _ _ observes_cold, rfl⟩

/-- In BYPASS, and in PASSIVE and ACTIVE. -/
theorem witness_ResumeRow :
    AtHead 3 (entry 3 (fields (ofList []))) [] (queued (entry 3 (fields (ofList []))) bypassed)
    ∧ bypassed.port.op = .bypass
    ∧ AtHead 3 (entry 3 (fields (ofList []))) [] (queued (entry 3 (fields (ofList []))) cold) ∧ cold.port.op ≠ .bypass
    ∧ AtHead 3 (entry 3 (fields (ofList []))) [] (queued (entry 3 (fields (ofList []))) live) ∧ live.port.op ≠ .bypass :=
  ⟨atHead_queued _ _ observes_bypassed, rfl, atHead_queued _ _ observes_cold, by decide, atHead_queued _ _ observes_live,
    by decide⟩

/-- The fields that form a map. -/
def mapOf (e : DirEntry) : RegionMap :=
  ⟨BitVec.ofNat 20 (16 * e.argU 0), BitVec.ofNat 20 (16 * e.argU 1),
    if e.argU 2 = 0 then 256 else 16 * max 2 (min 64 (e.argU 2)), BitVec.ofNat 20 (16 * e.argU 3),
    max 4 (min 32 (e.argU 4))⟩

/-- A map that fits, one that fits and ends at the top of the address space, and one that ends beyond it. -/
theorem witness_ConfigureRow :
    AtHead 1 (entry 1 (fields (ofList [0x400, 0x600, 0, 0x610, 8]))) []
      (queued (entry 1 (fields (ofList [0x400, 0x600, 0, 0x610, 8]))) cold)
    ∧ mapOf (entry 1 (fields (ofList [0x400, 0x600, 0, 0x610, 8]))) = map0 ∧ map0.Fits cold.port.strap
    ∧ mapOf (entry 1 (fields (ofList [0x400, 0xFFC0, 65, 0xFFB8, 33]))) = mapTop ∧ mapTop.Fits cold.port.strap
    ∧ ¬ (mapOf (entry 1 (fields (ofList [0x400, 0xFFC1, 64, 0xFFB8, 32])))).Fits cold.port.strap := by
  refine ⟨atHead_queued _ _ observes_cold, by decide, map0_fits, by decide, mapTop_fits, ?_⟩
  have h : mapOf (entry 1 (fields (ofList [0x400, 0xFFC1, 64, 0xFFB8, 32]))) = ⟨0x04000, 0xFFC10, 1024, 0xFFB80, 32⟩ := by
    decide
  rw [h]
  intro f
  have := f.windowEnds
  simp at this

/-- Outside the three states that observe writes; a placed pane. -/
theorem witness_WritesForwarded : ¬ Observes (inOp .transparent live) ∧ ¬ Observes (inOp .disabled live)
    ∧ (inOp .disabled live).port.strap ≠ 63#6 :=
  ⟨not_observes _ (.inr rfl), not_observes _ (.inl rfl), by decide⟩

/-- Words 1 and 7. -/
theorem witness_SlotArgumentWritten : live.port.strap ≠ 63#6 ∧ (1#3 ≠ 0#3) ∧ (7#3 ≠ 0#3) ∧ Observes live
    ∧ ¬ Observes (inOp .transparent live) :=
  ⟨by decide, by decide, by decide, observes_live, not_observes _ (.inr rfl)⟩

/-- Kind 0, the sixteenth entry, and the one after it; DISABLED and TRANSPARENT. -/
theorem witness_DirectivePosted :
    live.port.strap ≠ 63#6 ∧ Observes live
    ∧ (∃ e : DirEntry, e.slot = 15 ∧ e.kind = (0x00110000 : Word).extractLsb' 24 8 ∧ e.tag = (0x00110000 : Word).extractLsb' 16 8
      ∧ (∀ i : Fin 7, some e.args[i] = live.dir.shadow[7 * (15#4).toNat + i.val]?) ∧ e.kind = 0)
    ∧ (∃ e : DirEntry, e.slot = 15 ∧ e.kind = (0xFF110000 : Word).extractLsb' 24 8 ∧ e.tag = (0xFF110000 : Word).extractLsb' 16 8
      ∧ (∀ i : Fin 7, some e.args[i] = live.dir.shadow[7 * (15#4).toNat + i.val]?) ∧ e.kind ≠ 0)
    ∧ (posted 15).dir.queue.length < 16 ∧ Observes (posted 15) ∧ 16 ≤ (posted 16).dir.queue.length ∧ Observes (posted 16)
    ∧ ¬ Observes (inOp .disabled live) ∧ ¬ Observes (inOp .transparent live) :=
  ⟨by decide, observes_live, ⟨⟨15, 0, 0x11, Vector.replicate 7 0⟩, by decide, by decide, by decide, by decide, by decide⟩,
    ⟨⟨15, 0xFF, 0x11, Vector.replicate 7 0⟩, by decide, by decide, by decide, by decide, by decide⟩,
    by decide, .inr (.inl rfl), by decide, .inr (.inl rfl), not_observes _ (.inl rfl), not_observes _ (.inr rfl)⟩

/-- Fields 0 and 13. -/
theorem witness_ArgumentFields : (0 : Fin 14).val / 2 < 7 ∧ (13 : Fin 14).val / 2 < 7 := by decide

/-- The last record, its four words, the status write with VALID clear, in ACTIVE and in BYPASS. -/
theorem witness_MailboxWordCaptured :
    Placed map0 live ∧ live.port.op = .active ∧ Placed map0 bypassed ∧ bypassed.port.op = .bypass
    ∧ (7#5).toNat < map0.records ∧ (0#2 = 0#2 ∨ 0#2 = 1#2) ∧ (1#2 = 0#2 ∨ 1#2 = 1#2)
    ∧ (0x0611C : Addr) = BitVec.ofNat 20 (map0.mailboxBase.toNat + 4 * (7#5).toNat + (0#2).toNat)
    ∧ (2#2 = 2#2 ∨ (2#2 = 3#2 ∧ (0xFFFFFFFF : Word).getLsbD 31 = false))
    ∧ (3#2 = 2#2 ∨ (3#2 = 3#2 ∧ (0x7FFFFFFF : Word).getLsbD 31 = false))
    ∧ (0x0611F : Addr) = BitVec.ofNat 20 (map0.mailboxBase.toNat + 4 * (7#5).toNat + (3#2).toNat) :=
  ⟨placed_live _ rfl rfl, rfl, placed_live _ rfl rfl, rfl, by decide, by decide, by decide, by decide, by decide, by decide,
    by decide⟩

/-- The addresses on either side of the strap block, and of the mailbox. -/
theorem witness_WriteWithdraws :
    Observes live ∧ Observes cold
    ∧ (∀ a : Nat, a = 0x07FFF ∨ a = 0x080C0 ∨ a = 0x060FF ∨ a = 0x06120 → ¬ InStrapBlock live.port.strap a
      ∧ (live.port.op ≠ .passive → ∀ m, live.port.config = some m → ¬ m.InMailbox a)) := by
  refine ⟨observes_live, observes_cold, fun a h => ⟨?_, fun _ m hm => ?_⟩⟩
  · simp [InStrapBlock, live, cold]
    omega
  · cases hm
    simp [RegionMap.InMailbox, map0]
    omega

/-- A WHEELS sample under the source TABLET, from the last record. -/
theorem witness_SampleIgnored :
    Placed map0 live ∧ live.port.op = .active ∧ (7#5).toNat < map0.records ∧ (0x80000002 : Word).getLsbD 31 = true
    ∧ ¬ (live.cu.source = .tablet ∧ (0x80000002 : Word).extractLsb' 0 2 = 1#2)
    ∧ ¬ (live.cu.source = .wheels ∧ (0x80000002 : Word).extractLsb' 0 2 = 2#2)
    ∧ (0x0611F : Addr) = BitVec.ofNat 20 (map0.mailboxBase.toNat + 4 * (7#5).toNat + 3) :=
  ⟨placed_live _ rfl rfl, rfl, by decide, by decide, by decide, by decide, by decide⟩

/-- A TABLET sample without and with a press edge, a WHEELS sample, in ACTIVE with three and with four presses pending, and in
BYPASS. -/
theorem witness_SampleInProximity :
    Placed map0 live ∧ live.port.op = .active ∧ (0#5).toNat < map0.records ∧ (0xC0000001 : Word).getLsbD 31 = true
    ∧ (0x06103 : Addr) = BitVec.ofNat 20 (map0.mailboxBase.toNat + 4 * (0#5).toNat + 3)
    ∧ live.cu.capture[(0#5).toNat]? = some (0, 0)
    ∧ (live.cu.source = .tablet ∧ (0xC0000001 : Word).extractLsb' 0 2 = 1#2 ∧ (0xC0000001 : Word).getLsbD 30 = true
      ∧ (⟨0, 0⟩ : Pt) = ⟨roundDiv (((((0 : Word).extractLsb' 16 16).toNat : Int) - live.cu.ox) * live.cu.gx) 65536,
        roundDiv (((((0 : Word).extractLsb' 0 16).toNat : Int) - live.cu.oy) * live.cu.gy) 65536⟩)
    ∧ (∀ b : Fin 4, (0#4).getLsbD b.val = ((0 : Word).getLsbD b.val && !live.cu.prev.getLsbD b.val && (live.cu.map[b]).isSome))
    ∧ (∀ b : Fin 4, (1#4).getLsbD b.val = ((3 : Word).getLsbD b.val && !live.cu.prev.getLsbD b.val && (live.cu.map[b]).isSome))
    ∧ (wheeled.cu.source = .wheels ∧ Placed map0 wheeled ∧ (0x80000002 : Word).extractLsb' 0 2 = 2#2
      ∧ (⟨2043, 2048⟩ : Pt) = ⟨wheeled.cu.pos.x + ((0xFB000000 : Word).extractLsb' 24 8).toInt * wheeled.cu.wheel,
        wheeled.cu.pos.y + ((0xFB000000 : Word).extractLsb' 16 8).toInt * wheeled.cu.wheel⟩)
    ∧ ((pressed 3).se.presses.length < 4 ∧ Placed map0 (pressed 3)) ∧ (4 ≤ (pressed 4).se.presses.length ∧ Placed map0 (pressed 4))
    ∧ Placed map0 bypassed ∧ bypassed.port.op = .bypass :=
  ⟨placed_live _ rfl rfl, rfl, by decide, by decide, by decide, by decide, by decide, by decide, by decide,
    ⟨rfl, placed_live _ rfl rfl, by decide, by decide⟩, ⟨by decide, placed_live _ rfl rfl⟩, ⟨by decide, placed_live _ rfl rfl⟩, placed_live _ rfl rfl, rfl⟩

/-- Both values of the proximity. -/
theorem witness_SampleOutOfProximity :
    Placed map0 live ∧ live.port.op = .active ∧ (7#5).toNat < map0.records ∧ (0x80000001 : Word).getLsbD 31 = true
    ∧ live.cu.source = .tablet ∧ (0x80000001 : Word).extractLsb' 0 2 = 1#2 ∧ (0x80000001 : Word).getLsbD 30 = false
    ∧ (0x0611F : Addr) = BitVec.ofNat 20 (map0.mailboxBase.toNat + 4 * (7#5).toNat + 3)
    ∧ live.cu.inRange = false ∧ (at88 ⟨0, 0⟩).cu.inRange = true ∧ Placed map0 (at88 ⟨0, 0⟩) :=
  ⟨placed_live _ rfl rfl, rfl, by decide, by decide, rfl, by decide, by decide, by decide, rfl, rfl, placed_live _ rfl rfl⟩

/-- The first and the last pane word in PASSIVE and BYPASS, the word below the pane and the word above the strap block. -/
theorem witness_StrokeReadOutsideActive :
    cold.port.op ≠ .active ∧ bypassed.port.op ≠ .active ∧ cold.port.strap ≠ 63#6
    ∧ (0x08080 : Addr).toNat = cold.port.strap.toNat * 0x4000 + 0x80 + 0
    ∧ (0x080BF : Addr).toNat = cold.port.strap.toNat * 0x4000 + 0x80 + 63
    ∧ (0x0807F : Addr).toNat < cold.port.strap.toNat * 0x4000 + 0x80
    ∧ ¬ InStrapBlock cold.port.strap (0x080C0 : Addr).toNat
    ∧ (inOp .disabled cold).port.op = .disabled ∧ (inOp .transparent cold).port.op = .transparent :=
  ⟨by decide, by decide, by decide, by decide, by decide, by decide, by simp [InStrapBlock, cold], rfl, rfl⟩

theorem noFreezeWatch_live (a : Addr) (s : State) (h : s.flt.watches = ⟨⟨false, 0, .note⟩, ⟨false, 0, .note⟩⟩) :
    NoFreezeWatch a s := by
  intro w hw
  rw [h] at hw
  rcases hw with rfl | rfl <;> simp

theorem patternOk_of (s : State) (h : s.pat.a.reload ≤ 255 ∧ s.pat.a.compare ≤ 255 ∧ s.pat.b.reload ≤ 255 ∧ s.pat.b.compare ≤ 255
    ∧ s.pat.a.count ≤ 255 ∧ s.pat.b.count ≤ 255 ∧ (s.pat.cascade = true → s.pat.a.out = s.pat.b.out)
    ∧ (s.band.period = 0 ∨ (2 ≤ s.band.period ∧ s.band.period ≤ 255)) ∧ s.band.onLen ≤ 255
    ∧ (2 ≤ s.band.period → s.pat.phase ≤ s.band.period - 1) ∧ s.pat.phase ≤ 254) : PatternOk s := by
  obtain ⟨h1, h2, h3, h4, h5, h6, h7, h8, h9, h10, h11⟩ := h
  exact ⟨⟨h1, h2, h3, h4⟩, ⟨h5, h6⟩, h7, h8, h9, h10, h11⟩

/-- ACTIVE in CASCADE mode, counter A at c and counter B at 0. -/
def cascadingAt (c : Nat) : State := { live with pat :=
  { cascaded with a := { cascaded.a with count := c, out := true }, b := { cascaded.b with count := 0, out := true } } }

/-- Both counters at 0. -/
def cascading : State := cascadingAt 0

/-- ACTIVE and COMPOSING, with the again flag set or clear. -/
def composing (again : Bool) : State :=
  { live with comp := { live.comp with pass := some composition, again := again } }

/-- WAITING, LOST, and TRACKING with a frame open and without; RUNNING in PAIR mode, and FROZEN; none, fifteen and sixteen geometry items queued;
every kind of a list-base word; CASCADE mode with both counters at 0 and with a count; a pass in progress. -/
theorem witness_FrameStarts :
    Placed map0 live ∧ live.port.op = .active ∧ live.trk.state ≠ .halted ∧ (0x0FFFFFFF : Word).extractLsb' 28 4 = 0#4
    ∧ (Placed map0 lost ∧ lost.port.op = .active ∧ lost.trk.state ≠ .halted ∧ lost.trk.state ≠ .tracking)
    ∧ (Placed map0 aborted ∧ aborted.port.op = .active ∧ aborted.trk.state = .tracking ∧ aborted.trk.frameOpen = true)
    ∧ (Placed map0 ended ∧ ended.port.op = .active ∧ ended.trk.frameOpen = false)
    ∧ (Placed map0 (crowdedQueue 15) ∧ geometryCount (crowdedQueue 15).hv.queue < 16)
    ∧ (Placed map0 (crowdedQueue 16) ∧ 16 ≤ geometryCount (crowdedQueue 16).hv.queue)
    ∧ NoFreezeWatch map0.listBase live ∧ live.pat.frozen = false ∧ live.pat.cascade = false ∧ (staged true).pat.frozen = true
    ∧ Placed map0 (staged true)
    ∧ (true = true ↔ aborted.trk.state = .tracking ∧ aborted.trk.frameOpen = true)
    ∧ (false = true ↔ live.trk.state = .tracking ∧ live.trk.frameOpen = true)
    ∧ (∀ k : BitVec 4, (BitVec.ofNat 32 (k.toNat * 2 ^ 28)).extractLsb' 28 4 = k)
    ∧ (∀ c, c = 0 ∨ c = 255 → Placed map0 (cascadingAt c) ∧ (cascadingAt c).port.op = .active
      ∧ (cascadingAt c).pat.frozen = false ∧ (cascadingAt c).pat.cascade = true ∧ PatternOk (cascadingAt c)
      ∧ (cascadingAt c).pat.a.run = true ∧ NoFreezeWatch map0.listBase (cascadingAt c))
    ∧ (0 = 256 * (cascadingAt 0).pat.b.count + (cascadingAt 0).pat.a.count)
    ∧ (cascadingAt 0).comp.pass = none ∧ (composing true).comp.pass ≠ none ∧ Placed map0 (composing true)
    ∧ NoFreezeWatch map0.listBase (composing true) ∧ (composing true).pat.frozen = false :=
  ⟨placed_live _ rfl rfl, rfl, by decide, by decide, ⟨placed_live _ rfl rfl, rfl, by decide, by decide⟩,
    ⟨placed_live _ rfl rfl, rfl, rfl, rfl⟩, ⟨placed_live _ rfl rfl, rfl, rfl⟩, ⟨placed_live _ rfl rfl, by decide⟩,
    ⟨placed_live _ rfl rfl, by decide⟩, noFreezeWatch_live _ _ rfl, rfl, rfl, rfl,
    placed_live _ rfl rfl, by decide, by decide, by decide,
    fun c h => ⟨placed_live _ rfl rfl, rfl, rfl, rfl, patternOk_of _ (by rcases h with rfl | rfl <;> decide), rfl,
      noFreezeWatch_live _ _ rfl⟩, rfl, rfl, by simp [composing], placed_live _ rfl rfl, noFreezeWatch_live _ _ rfl, rfl⟩

/-- With the frame open, and closed; WAITING and LOST. -/
theorem witness_TrackLost :
    Placed map0 (tracking { live.trk with expected := 0x04004 }) ∧ live.port.op = .active
    ∧ (0x04010 : Addr) ≠ map0.listBase ∧ (0x04010 : Addr) ≠ 0x04004 ∧ ¬ map0.InWindow (0x04010 : Addr).toNat
    ∧ (tracking live.trk).trk.frameOpen = true
    ∧ (Placed map0 ended ∧ ended.trk.state = .tracking ∧ (0x04010 : Addr) ≠ ended.trk.expected ∧ ended.trk.frameOpen = false)
    ∧ (Placed map0 live ∧ live.trk.state = .waiting) ∧ (Placed map0 lost ∧ lost.trk.state = .lost) := by
  refine ⟨placed_live _ rfl rfl, rfl, by decide, by decide, ?_, rfl, ⟨placed_live _ rfl rfl, rfl, by decide, rfl⟩,
    ⟨placed_live _ rfl rfl, rfl⟩, placed_live _ rfl rfl, rfl⟩
  simp [RegionMap.InWindow, map0]

/-- TRACKING with a record in progress, expecting a. -/
def expecting (a : Addr) (r : Option Partial) : State := tracking { live.trk with expected := a, record := r }

/-- In the display list, in the window, in the pane and in the directive slots; between records and inside each kind of them. -/
theorem witness_RecordsTracked :
    (∀ a : Addr, a = 0x05FFF ∨ a = 0x06000 ∨ a = 0x060FF ∨ a = 0x0807F ∨ a = 0x08080 ∨ a = 0x080BF ∨ a = 0x080C0 ∨ a = 0xFFFFF →
      ∀ r, r = none ∨ r = some (Partial.circle 0x05FFE ⟨0, 4095⟩ true) ∨ r = some (.label 0x05FFE 64) → a ≠ map0.listBase
        ∧ Placed map0 (expecting a r) ∧ (expecting a r).port.op = .active ∧ (expecting a r).trk.state = .tracking
        ∧ a = (expecting a r).trk.expected ∧ (expecting a r).trk.record = r)
    ∧ (true = true ↔ InRegions map0 live 0x06000) ∧ (true = true ↔ InRegions map0 live 0x060FF)
    ∧ (true = true ↔ InRegions map0 live 0x08080) ∧ (true = true ↔ InRegions map0 live 0x080BF)
    ∧ (false = true ↔ InRegions map0 live 0x05FFF) ∧ (false = true ↔ InRegions map0 live 0x0807F)
    ∧ (false = true ↔ InRegions map0 live 0x080C0) ∧ (false = true ↔ InRegions map0 live 0xFFFFF)
    ∧ live.trk.attr.inert = false ∧ live.trk.attr.intensity ≠ 0 ∧ geometryCount live.hv.queue < 16
    ∧ 16 ≤ geometryCount (crowdedQueue 16).hv.queue ∧ (0x080BF : Addr).toNat = live.port.strap.toNat * 0x4000 + 0x80 + 63
    ∧ (∀ k : BitVec 4, (BitVec.ofNat 32 (k.toNat * 2 ^ 28)).extractLsb' 28 4 = k) := by
  refine ⟨fun a h r _ => ⟨?_, placed_live _ rfl rfl, rfl, rfl, rfl, rfl⟩, ?_, ?_, ?_, ?_, ?_, ?_, ?_, ?_, by decide⟩
  · rcases h with rfl | rfl | rfl | rfl | rfl | rfl | rfl | rfl <;> decide
  all_goals simp [InRegions, RegionMap.InWindow, InStrapBlock, map0, live, cold]

/-- The eighth and the ninth call, word 1 of a call, a RETURN with a call open and with none; and a RETURN in the window. -/
theorem witness_CallsAndReturns :
    (∀ s, s ∈ [nested 0, nested 7, nested 8, calling] → Placed map0 s ∧ s.port.op = .active ∧ s.trk.state = .tracking
      ∧ 0x05000 = s.trk.expected ∧ (false = true ↔ InRegions map0 s 0x05000))
    ∧ (0x05000 : Addr) ≠ map0.listBase
    ∧ (0x6FFFFFFF : Word).extractLsb' 28 4 = 6#4 ∧ (0x7FFFFFFF : Word).extractLsb' 28 4 = 7#4
    ∧ (nested 7).trk.calls.length < 8 ∧ 8 ≤ (nested 8).trk.calls.length ∧ (nested 0).trk.calls = []
    ∧ (nested 0).trk.record = none ∧ calling.trk.record = some (.call 0x04FFF 0x06000)
    ∧ Placed map0 (expecting 0x0600E none) ∧ (true = true ↔ InRegions map0 (expecting 0x0600E none) 0x0600E) := by
  refine ⟨fun s h => ?_, by decide, by decide, by decide, by decide, by decide, rfl, rfl, rfl, placed_live _ rfl rfl, ?_⟩
  · simp only [List.mem_cons, List.not_mem_nil, or_false] at h
    rcases h with rfl | rfl | rfl | rfl <;> exact ⟨placed_live _ rfl rfl, rfl, rfl, rfl,
      by simp [InRegions, RegionMap.InWindow, InStrapBlock, map0, nested, calling, tracking, live, cold]⟩
  · simp [InRegions, RegionMap.InWindow, map0]

/-- Offset 0; the last word of the served list and the offset after it; the last offset of the window. -/
theorem witness_WindowServed :
    Placed map0 (staged false) ∧ (staged false).port.op = .active ∧ NoFreezeWatch 0x06000 (staged false)
    ∧ 0 < map0.windowLen ∧ (0x06000 : Addr).toNat = map0.windowBase.toNat + 0
    ∧ 255 < map0.windowLen ∧ (0x060FF : Addr).toNat = map0.windowBase.toNat + 255
    ∧ 14 < (staged false).comp.staged.words.length ∧ (staged false).comp.staged.words.length ≤ 15
    ∧ (staged false).comp.entered = false ∧ (staged true).pat.frozen = true :=
  ⟨placed_live _ rfl rfl, rfl, noFreezeWatch_live _ _ rfl, by decide, by decide, by decide, by decide, by decide, by decide,
    rfl, rfl⟩

theorem witness_WatchesMatch :
    (true = decide ((⟨true, 0x05003, .locate⟩ : Watch).on = true ∧ (⟨true, 0x05003, .locate⟩ : Watch).addr = 0x05003))
    ∧ (false = decide (live.flt.watches.e1.on = true ∧ live.flt.watches.e1.addr = 0x05003))
    ∧ live.port.op = .active ∧ cold.port.op ≠ .active := by decide

theorem witness_ResultAndCommitLatches :
    live.port.strap ≠ 63#6 ∧ Observes live ∧ Observes cold ∧ ¬ Observes (inOp .disabled live)
    ∧ ¬ Observes (inOp .transparent live) :=
  ⟨by decide, observes_live, observes_cold, not_observes _ (.inl rfl), not_observes _ (.inr rfl)⟩

/-- The peek window of a bank's first entry, with the latch closed and open; and without a CURRENT bank. -/
theorem witness_PeekWindowWalks :
    live.port.strap ≠ 63#6
    ∧ ((⟨0, none⟩ : PeekCopy).pointer = live.pane.peek
      ∧ ∀ e, (⟨0, none⟩ : PeekCopy).entry = some e ↔ ∃ b, currentBank live = some b ∧ b.entries[live.pane.peek]? = some e)
    ∧ ((⟨0, bank88.entries[0]?⟩ : PeekCopy).pointer = (at88 ⟨0, 0⟩).pane.peek
      ∧ ∀ e, (⟨0, bank88.entries[0]?⟩ : PeekCopy).entry = some e ↔
        ∃ b, currentBank (at88 ⟨0, 0⟩) = some b ∧ b.entries[(at88 ⟨0, 0⟩).pane.peek]? = some e)
    ∧ live.pane.peekLatch = none ∧ peeking.pane.peekLatch = some ⟨1024, none⟩
    ∧ Observes live ∧ ¬ Observes (inOp .disabled live) := by
  refine ⟨by decide, ⟨rfl, fun e => ?_⟩, ⟨rfl, fun e => ?_⟩, rfl, rfl, observes_live, not_observes _ (.inl rfl)⟩
  · have h : currentBank live = none := by decide
    simp [h]
  · have h : currentBank (at88 ⟨0, 0⟩) = some bank88 := by decide
    simp only [h, Option.some.injEq, exists_eq_left']
    exact Iff.rfl

/-- ACTIVE with channel B about to reload. -/
def blinkingB : State := { live with pat := ⟨false, ⟨3, 1, true, 1, true⟩, ⟨255, 255, true, 0, true⟩, 0, false⟩ }

/-- Channel B of that state at a count, running or stopped; and CASCADE mode with A at 0 and B above 0. -/
def blinkingBAt (count : Nat) (run : Bool) : State :=
  { blinkingB with pat := { blinkingB.pat with b := { blinkingB.pat.b with count := count, run := run } } }

def cascadingBAbove : State := { cascading with pat := { cascading.pat with b := { cascading.pat.b with count := 1 } } }

/-- A reload of A that changes its output, one of B that does not, a cascaded reload, and a wrap of φ; none due while FROZEN, with B
above 0 or stopped, and in CASCADE with A at 0 and B above 0. -/
theorem witness_PatternRows :
    (PatternOk (blinking 0 true 0) ∧ (blinking 0 true 0).port.op = .active ∧ (blinking 0 true 0).pat.frozen = false
      ∧ (blinking 0 true 0).pat.cascade = false ∧ (blinking 0 true 0).pat.a.run = true ∧ (blinking 0 true 0).pat.a.count = 0
      ∧ (blinking 0 true 0).band.march = true ∧ 2 ≤ (blinking 0 true 0).band.period ∧ (blinking 0 true 0).pat.phase = 0)
    ∧ (PatternOk blinkingB ∧ blinkingB.port.op = .active ∧ blinkingB.pat.frozen = false ∧ blinkingB.pat.cascade = false
      ∧ blinkingB.pat.b.run = true ∧ blinkingB.pat.b.count = 0)
    ∧ (PatternOk cascading ∧ cascading.port.op = .active ∧ cascading.pat.frozen = false ∧ cascading.pat.cascade = true
      ∧ cascading.pat.a.run = true ∧ cascading.pat.a.count = 0 ∧ cascading.pat.b.count = 0)
    ∧ (PatternOk (staged true) ∧ (staged true).pat.frozen = true)
    ∧ (PatternOk (blinkingBAt 1 true) ∧ (blinkingBAt 1 true).pat.cascade = false ∧ 0 < (blinkingBAt 1 true).pat.b.count)
    ∧ (PatternOk (blinkingBAt 0 false) ∧ (blinkingBAt 0 false).pat.cascade = false ∧ (blinkingBAt 0 false).pat.b.run = false)
    ∧ (PatternOk cascadingBAbove ∧ cascadingBAbove.pat.cascade = true ∧ cascadingBAbove.pat.a.run = true
      ∧ cascadingBAbove.pat.a.count = 0 ∧ 0 < cascadingBAbove.pat.b.count) :=
  ⟨⟨patternOk_of _ (by decide), by decide⟩, ⟨patternOk_of _ (by decide), by decide⟩,
    ⟨patternOk_of _ (by decide), by decide⟩, ⟨patternOk_of _ (by decide), rfl⟩, ⟨patternOk_of _ (by decide), by decide⟩,
    ⟨patternOk_of _ (by decide), by decide⟩, patternOk_of _ (by decide), by decide⟩

/-- The shortest and the longest valid settings, and two that are not valid. -/
theorem witness_BlinkCycle :
    (∀ c, c = (⟨1, 1, true, 1, true⟩ : Channel) ∨ c = ⟨255, 1, true, 255, false⟩ →
      1 ≤ c.compare ∧ c.compare ≤ c.reload ∧ c.count = c.reload ∧ c.out = decide (c.reload = c.compare))
    ∧ ¬ (1 ≤ (⟨5, 0, true, 5, true⟩ : Channel).compare ∧ (⟨5, 0, true, 5, true⟩ : Channel).compare ≤ 5)
    ∧ ¬ (1 ≤ (⟨5, 6, true, 5, true⟩ : Channel).compare ∧ (⟨5, 6, true, 5, true⟩ : Channel).compare ≤ 5) := by
  refine ⟨fun c h => ?_, by decide, by decide⟩
  rcases h with rfl | rfl <;> decide

/-- With a pass of the largest window and one of the smallest; a list with no part. -/
theorem witness_PassEnds :
    listOf noParts ⟨false, 0, true, true⟩ = [.ret] ∧ listOf composition ⟨false, 0, true, true⟩ ≠ [.ret]
    ∧ listOf crowded ⟨false, 0, true, true⟩ ≠ [.ret] ∧
    32 ≤ composition.windowLen ∧ 32 ≤ crowded.windowLen ∧ (composing false).comp.pass = some composition ∧ (composing false).comp.again = false
    ∧ (composing true).comp.pass = some composition ∧ (composing true).comp.again = true ∧ live.comp.pass = none
    ∧ live.port.op = .active ∧ (composing true).port.op = .active ∧ (composing true).comp.pass ≠ none
    ∧ bypassed.port.op ≠ .active :=
  ⟨by decide, by decide, by decide, by decide, by decide, rfl, rfl, rfl, rfl, rfl, rfl, rfl, by simp [composing], by decide⟩

/-- The three banks. -/
def bankIds : List BankId := [.b0, .b1, .b2]

theorem mem_bankIds (i : BankId) : i ∈ bankIds := by cases i <;> decide

theorem banksOk_of (s : State)
    (h : ∀ i ∈ bankIds, (∀ j ∈ bankIds, (s.hv.banks.get i).state ≠ .empty →
        (s.hv.banks.get i).state = (s.hv.banks.get j).state → i = j)
      ∧ (s.hv.banks.get i).entries.length ≤ 1024
      ∧ ((s.hv.banks.get i).state = .empty → (s.hv.banks.get i).entries = [])) : BanksOk s where
  oneEach := fun st hst i j hi hj =>
    (h i (mem_bankIds i)).1 j (mem_bankIds j) (by rw [hi]; exact hst) (by rw [hi, hj])
  capacity := fun i => (h i (mem_bankIds i)).2.1
  released := fun i => (h i (mem_bankIds i)).2.2

/-- Three EMPTY banks. -/
def allReleased : Triplet Bank := ⟨Bank.released, Bank.released, Bank.released⟩

/-- A START and a DISCARD at the head, a bank FILLING. -/
theorem witness_StartAndDiscardTaken :
    (∀ it, it = .start 58 ⟨0, 4095⟩ 65535 true ∨ it = .discard → BanksOk (filling [] [it] none)
      ∧ (filling [] [it] none).port.op = .active ∧ (filling [] [it] none).hv.queue = [it]
      ∧ ∀ j, allReleased.get j = if ((filling [] [it] none).hv.banks.get j).state = .filling then Bank.released
        else (filling [] [it] none).hv.banks.get j)
    ∧ (allReleased.get .b0).state = .empty ∧ (∀ j, (allReleased.get j).state = .empty → BankId.b0.number ≤ j.number) := by
  refine ⟨fun it h => ⟨banksOk_of _ ?_, rfl, rfl, fun j => ?_⟩, rfl, fun j _ => Nat.zero_le _⟩
  · rcases h with rfl | rfl <;> decide
  · cases j <;> rfl

/-- Banks in the state s, READY and CURRENT. -/
def endingBanks (s : BankState) : Triplet Bank := ⟨{ bank88 with state := s }, { bank88 with state := .ready }, bank88⟩

/-- The part with those banks and an END queued. -/
def ending (sr : Option Search) : State := { live with
  hv := ⟨[.endMark], endingBanks .filling, none⟩
  se := { live.se with search := sr } }

/-- The same with the start of a search owed. -/
def owing : State := { ending none with se := { live.se with motion := true, startOwed := true } }

theorem searchOk_owing : SearchOk owing where
  bank := fun sr h => by cases h
  cursor := fun sr h => by cases h
  aperture := fun sr h => by cases h
  kept := fun sr h => by cases h
  hold := fun sr h => by cases h
  presses := fun p hp => by cases hp
  position := by decide
  owed := fun _ => ⟨rfl, .inr rfl⟩
  settings := by decide

/-- An END with no bank FILLING; with one FILLING, another READY and another CURRENT, the engine IDLE and SEARCHING; with a start owed. -/
theorem witness_EndTaken :
    (BanksOk { live with hv := ⟨[.endMark], allReleased, none⟩ } ∧ live.port.op = .active
      ∧ ∀ i, (allReleased.get i).state ≠ .filling)
    ∧ (BanksOk (ending none) ∧ (ending none).hv.queue = [.endMark] ∧ ((ending none).hv.banks.get .b0).state = .filling
      ∧ (ending none).se.search = none
      ∧ ∀ j, (⟨bank88, Bank.released, Bank.released⟩ : Triplet Bank).get j =
        if j = .b0 then { (ending none).hv.banks.get j with state := .current }
        else if ((ending none).hv.banks.get j).state = .ready ∨ ((ending none).hv.banks.get j).state = .current then Bank.released
        else (ending none).hv.banks.get j)
    ∧ (BanksOk (ending (some (searchInputs .motion live))) ∧ (ending (some (searchInputs .motion live))).se.search.isSome = true
      ∧ ∀ j, (⟨{ bank88 with state := .ready }, Bank.released, bank88⟩ : Triplet Bank).get j =
        if j = .b0 then { (ending none).hv.banks.get j with state := .ready }
        else if ((ending none).hv.banks.get j).state = .ready then Bank.released else (ending none).hv.banks.get j)
    ∧ (ending none).se.startOwed = false ∧ BanksOk owing ∧ SearchOk owing ∧ owing.se.startOwed = true
    ∧ ∃ z, Machine.exec .searchStart owing = .next z ∧ z.se.search.isSome = true := by
  refine ⟨⟨banksOk_of _ (by decide), rfl, fun i => ?_⟩,
    ⟨banksOk_of _ (by decide), rfl, rfl, rfl, fun j => ?_⟩, ⟨banksOk_of _ (by decide), rfl, fun j => ?_⟩, rfl,
    banksOk_of _ (by decide), searchOk_owing, rfl, _, rfl, rfl⟩
  · cases i <;> decide
  · cases j <;> rfl
  · cases j <;> rfl

/-- ACTIVE with an item queued and a FILLING bank of 1022 entries. -/
def nearlyFull (it : QItem) : State := filling (List.replicate 1022 ⟨.circle ⟨0, 0⟩ 1, ⟨0, 2⟩, none, 0, false⟩) [it] none

theorem banksOk_nearlyFull (it : QItem) : BanksOk (nearlyFull it) := by
  refine banksOk_of _ fun i _ => ⟨fun j _ h1 h2 => ?_, ?_, fun h => ?_⟩
  · cases i <;> cases j <;> first | rfl | exact absurd rfl h1 | exact absurd (show BankState.filling = .empty from h2) (by decide)
  · cases i with
    | b0 => exact Nat.zero_le _
    | b1 => exact Nat.zero_le _
    | b2 =>
      show (List.replicate 1022 _).length ≤ 1024
      rw [List.length_replicate]
      decide
  · cases i with
    | b0 => rfl
    | b1 => rfl
    | b2 => exact absurd (show BankState.filling = .empty from h) (by decide)

/-- A bank that takes two of the four entries of a SEGMENT; and no bank FILLING. -/
theorem witness_SegmentItemTaken :
    (BanksOk (nearlyFull (.segment ⟨900, 700⟩ ⟨1100, 701⟩ ⟨0x04002, 1⟩ none 7))
      ∧ (nearlyFull (.segment ⟨900, 700⟩ ⟨1100, 701⟩ ⟨0x04002, 1⟩ none 7)).port.op = .active
      ∧ (⟨1000, 701⟩ : Pt) = ⟨((900 : Int) + 1100 + 1) / 2, ((700 : Int) + 701 + 1) / 2⟩)
    ∧ (∃ h : Header, h = ((nearlyFull .endMark).hv.banks.get .b2).header
      ∧ ((nearlyFull .endMark).hv.banks.get .b2).state = .filling
      ∧ (true = true ↔ h.TakesPoint ⟨900, 700⟩ ∧ (nearlyFull .endMark).hv.lastEndpoint ≠ some ⟨900, 700⟩)
      ∧ (true = true ↔ h.TakesPoint ⟨1100, 701⟩ ∧ some (⟨900, 700⟩ : Pt) ≠ some ⟨1100, 701⟩)
      ∧ (true = true ↔ (⟨900, 700⟩ : Pt).OnScreen ∧ (⟨1100, 701⟩ : Pt).OnScreen ∧ h.TakesPoint ⟨1000, 701⟩)
      ∧ (true = true ↔ h.TakesBox ⟨min 900 1100, min 700 701⟩ ⟨max 900 1100, max 700 701⟩))
    ∧ (BanksOk { live with hv := ⟨[.segment ⟨900, 700⟩ ⟨1100, 701⟩ ⟨0x04002, 1⟩ none 7], allReleased, none⟩ }
      ∧ ∀ i, (allReleased.get i).state ≠ .filling) := by
  refine ⟨⟨banksOk_nearlyFull _, rfl, by decide⟩, ⟨_, rfl, rfl, by decide, by decide, by decide, ?_⟩, banksOk_of _ (by decide),
    fun i => by cases i <;> decide⟩
  exact iff_of_true rfl ⟨1000, 700, by decide⟩

/-- A circle, and one of radius 0; and no bank FILLING. -/
theorem witness_CircleItemTaken :
    (BanksOk (nearlyFull (.circle ⟨1000, 1000⟩ 100 ⟨0x04005, 2⟩ 7))
      ∧ (nearlyFull (.circle ⟨1000, 1000⟩ 100 ⟨0x04005, 2⟩ 7)).port.op = .active)
    ∧ (∃ h : Header, h = ((nearlyFull .endMark).hv.banks.get .b2).header
      ∧ ((nearlyFull .endMark).hv.banks.get .b2).state = .filling
      ∧ (true = true ↔ (100 : Nat) ≠ 0 ∧ h.TakesBox ⟨1000 - 100, 1000 - 100⟩ ⟨1000 + 100, 1000 + 100⟩)
      ∧ (false = true ↔ (0 : Nat) ≠ 0 ∧ h.TakesBox ⟨1000, 1000⟩ ⟨1000, 1000⟩))
    ∧ (BanksOk { live with hv := ⟨[.circle ⟨1000, 1000⟩ 100 ⟨0x04005, 2⟩ 7], allReleased, none⟩ }
      ∧ ∀ i, (allReleased.get i).state ≠ .filling) := by
  refine ⟨⟨banksOk_nearlyFull _, rfl⟩, ⟨_, rfl, rfl, ?_, by simp⟩, banksOk_of _ (by decide), fun i => by cases i <;> decide⟩
  exact iff_of_true rfl ⟨by decide, 1000, 1000, by decide⟩

/-- n circles. -/
def circles (n : Nat) : List QItem := List.replicate n (.circle ⟨0, 0⟩ 1 ⟨0, 2⟩ 0)

/-- Fifteen and sixteen geometry items; the START of the frame queued, or already taken, before the newest geometry item. -/
theorem witness_QueueDrops :
    geometryCount (circles 15) < 16 ∧ 16 ≤ geometryCount (circles 16)
    ∧ (16 ≤ geometryCount (.start 58 ⟨0, 0⟩ 65535 false :: circles 16)
      ∧ (.start 58 ⟨0, 0⟩ 65535 false :: circles 16) = [] ++ .start 58 ⟨0, 0⟩ 65535 false :: circles 16
      ∧ ∀ f' c' d' n', QItem.start f' c' d' n' ∉ circles 16)
    ∧ (.start 58 ⟨0, 0⟩ 65535 false :: circles 15 ++ .circle ⟨0, 0⟩ 1 ⟨0, 2⟩ 0 :: [.endMark]
        = [] ++ .start 58 ⟨0, 0⟩ 65535 false :: circles 15 ++ .circle ⟨0, 0⟩ 1 ⟨0, 2⟩ 0 :: [.endMark]
      ∧ (∀ f' c' d' n', QItem.start f' c' d' n' ∉ circles 15)
      ∧ (QItem.circle ⟨0, 0⟩ 1 ⟨0, 2⟩ 0).isGeometry = true ∧ (∀ x ∈ [QItem.endMark], x.isGeometry = false))
    ∧ (circles 16 = circles 15 ++ .circle ⟨0, 0⟩ 1 ⟨0, 2⟩ 0 :: [])
    ∧ (BanksOk (filling [] (circles 16) none) ∧ ((filling [] (circles 16) none).hv.banks.get .b2).state = .filling) := by
  refine ⟨by decide, by decide, ⟨by decide, rfl, ?_⟩, ⟨rfl, ?_, rfl, by decide⟩, by decide, banksOk_of _ (by decide), rfl⟩ <;>
    simp [circles]

/-- The part with requests pending. -/
def requested (l : List Press) (m : Bool) : State := { at88 ⟨0, 4095⟩ with se := { live.se with presses := l, motion := m } }

/-- A press before a MOTION, a MOTION alone, nothing pending, and a search in flight. -/
theorem witness_SearchStarts :
    (∀ i, some BankId.b1 = some i ↔ ((at88 ⟨0, 4095⟩).hv.banks.get i).state = .current)
    ∧ (∀ i, (none : Option BankId) = some i ↔ (live.hv.banks.get i).state = .current)
    ∧ (requested [⟨⟨0, 0⟩, 15⟩] true).port.op = .active ∧ (requested [⟨⟨0, 0⟩, 15⟩] true).se.search = none
    ∧ (requested [⟨⟨0, 0⟩, 15⟩] true).se.presses = [⟨⟨0, 0⟩, 15⟩] ∧ (requested [] true).se.presses = []
    ∧ (requested [] true).se.motion = true ∧ live.se.presses = [] ∧ live.se.motion = false
    ∧ (searching .motion ⟨0, 0⟩ none).se.search.isSome = true := by
  refine ⟨fun i => ?_, fun i => ?_, rfl, rfl, rfl, rfl, rfl, rfl, rfl, rfl⟩
  · cases i <;> decide
  · cases i <;> decide

/-- An entry that matches the hold identity, and one withdrawn. -/
theorem witness_EntryExamined :
    (∃ sr e, { at88 ⟨2251, 1250⟩ with se := { live.se with search := some sr } }.se.search = some sr ∧ sr.bank = some .b1
      ∧ ((at88 ⟨2251, 1250⟩).hv.banks.get .b1).entries[sr.next]? = some e ∧ e.withdrawn = false
      ∧ (true = true ↔ sr.holdMet = false ∧ ∃ h, sr.identity = some h ∧ e.source.addr = h.source ∧
        (match e.shape with
          | .point .endpoint p => h.kind = .endpoint ∧ h.point = some p
          | .point .midpoint p => h.kind = .midpoint ∧ h.point = some p
          | .point .centre p => h.kind = .centre ∧ h.point = some p
          | .point .quadrant p => h.kind = .quadrant ∧ h.point = some p
          | .segment _ _ => h.kind = .nearest ∨ h.kind = .perpendicular
          | .circle _ _ => h.kind = .nearest)))
    ∧ (∃ (s : State) (sr : Search) (e : Entry), s.se.search = some sr ∧ sr.bank = some .b2
      ∧ (s.hv.banks.get .b2).entries[sr.next]? = some e ∧ e.withdrawn = true
      ∧ (false = true ↔ sr.holdMet = false ∧ ∃ h, sr.identity = some h ∧ e.source.addr = h.source)) := by
  refine ⟨⟨{ searchInputs .motion (at88 ⟨2251, 1250⟩) with next := 1, identity := some hold1 }, _, rfl, by decide, rfl, rfl, ?_⟩,
    { filling [⟨.circle ⟨0, 0⟩ 1, ⟨0, 2⟩, none, 0, true⟩] [] none with
      se := { live.se with search := some { searchInputs .motion live with bank := some .b2 } } }, _, _, rfl, rfl, rfl, rfl, ?_⟩
  · exact iff_of_true rfl ⟨rfl, hold1, rfl, rfl, rfl, rfl⟩
  · exact iff_of_false (by decide) fun h => by
      obtain ⟨_, x, hx, _⟩ := h
      exact absurd (show (none : Option HoldId) = some x from hx) (by simp)

/-- The hold candidate wins in search 2; without it a kept contender does, or none. -/
theorem witness_WinnerChosen :
    (∃ h, (searched .motion ⟨2254, 1244⟩ (some hold1)).hold = some h
      ∧ h.d2 ≤ ((searched .motion ⟨2254, 1244⟩ (some hold1)).aperture + (searched .motion ⟨2254, 1244⟩ (some hold1)).margin)
        * ((searched .motion ⟨2254, 1244⟩ (some hold1)).aperture + (searched .motion ⟨2254, 1244⟩ (some hold1)).margin)
      ∧ ∀ c ∈ (searched .motion ⟨2254, 1244⟩ (some hold1)).kept,
        (searched .motion ⟨2254, 1244⟩ (some hold1)).prio.of c.kind ≤ (searched .motion ⟨2254, 1244⟩ (some hold1)).prio.of h.kind)
    ∧ (searched .motion ⟨2251, 1250⟩ none).hold = none ∧ (searched .motion ⟨2251, 1250⟩ none).kept ≠ []
    ∧ (searched .motion ⟨0, 0⟩ none).hold = none ∧ (searched .motion ⟨0, 0⟩ none).kept = [] := by
  refine ⟨⟨_, rfl, by decide, by decide⟩, by decide, by decide, by decide, by decide⟩

theorem examined_searching (r : Request) (c : Pt) (h : Option HoldId) : Examined (searched r c h) (searching r c h) := by
  have count : ∀ (l : List Entry) (sr : Search), (l.foldl (fun sr e => examine e sr) sr).next = sr.next + l.length
      ∧ (l.foldl (fun sr e => examine e sr) sr).bank = sr.bank := by
    intro l
    induction l with
    | nil => exact fun sr => ⟨rfl, rfl⟩
    | cons e l ih =>
      intro sr
      have one : (examine e sr).next = sr.next + 1 ∧ (examine e sr).bank = sr.bank := by
        unfold examine; repeat' (first | exact ⟨rfl, rfl⟩ | split)
      simp only [List.foldl_cons, List.length_cons, (ih _).1, (ih _).2, one.1, one.2, and_true]
      omega
  intro i hi
  unfold searched at hi ⊢
  rw [(count _ _).2] at hi
  rw [(count _ _).1]
  cases hi
  exact Nat.le_add_left _ _

theorem noBoundHead_of (s : State) (h : s.dir.queue = []) : NoBoundHead s := fun e rest hq => by simp [h] at hq

/-- Search 1 about to complete, bank 2 in the state b. -/
def completing (b : BankState) : State := { searching .motion ⟨2251, 1250⟩ none with
  hv := ⟨[], ⟨Bank.released, bank88, { Bank.released with state := b }⟩, none⟩ }

theorem examined_completing (b : BankState) : Examined (searched .motion ⟨2251, 1250⟩ none) (completing b) := by
  intro i hi
  have h := examined_searching .motion ⟨2251, 1250⟩ none i hi
  cases i <;> exact h

/-- A completion without and with a READY bank. -/
theorem witness_MotionCompletes :
    ∃ sr : Search, sr.request = .motion
      ∧ (∀ b, b = .empty ∨ b = .ready → BanksOk (completing b) ∧ (completing b).port.op = .active
        ∧ (completing b).se.search = some sr ∧ Examined sr (completing b) ∧ NoBoundHead (completing b)
        ∧ ∃ r h, Publishes sr (completing b) r ∧ Identifies sr h)
      ∧ (∀ j, ((completing .empty).hv.banks.get j).state ≠ .ready) ∧ ((completing .ready).hv.banks.get .b2).state = .ready
      ∧ (∀ j, (⟨Bank.released, Bank.released, { Bank.released with state := .current }⟩ : Triplet Bank).get j =
        if j = .b2 then { (completing .ready).hv.banks.get j with state := .current }
        else if ((completing .ready).hv.banks.get j).state = .current then Bank.released
        else (completing .ready).hv.banks.get j) := by
  refine ⟨searched .motion ⟨2251, 1250⟩ none, by decide, fun b hb => ⟨banksOk_of _ ?_, rfl, rfl, examined_completing b,
    noBoundHead_of _ rfl, _, _, publishes_resultOf _ _, identifies_identityOf _⟩, fun j => ?_, rfl, fun j => ?_⟩
  · rcases hb with rfl | rfl <;> decide
  · cases j <;> decide
  · cases j <;> rfl

/-- Search 3 about to complete with every button of its mask mapped to COMMIT and n vertices in the trail, bank 2 in the state b. -/
def pressing (mask : BitVec 4) (n : Nat) (b : BankState) : State := { searching (.press ⟨⟨2243, 1250⟩, mask⟩) ⟨2243, 1250⟩ none with
  hv := ⟨[], ⟨Bank.released, bank88, { Bank.released with state := b }⟩, none⟩
  cu := { (at88 ⟨2243, 1250⟩).cu with map := Vector.replicate 4 (some .commit) }
  band := { live.band with trail := List.replicate n ⟨0, 0⟩ } }

/-- That search. -/
def pressSearch (mask : BitVec 4) : Search := searched (.press ⟨⟨2243, 1250⟩, mask⟩) ⟨2243, 1250⟩ none

/-- The buttons whose COMMIT fails there. -/
def pressFails (mask : BitVec 4) (n : Nat) (b : BankState) : List (Fin 4) :=
  failedCommits mask (pressing mask n b).cu.map (resultOf (pressSearch mask) (pressing mask n b)) (pressing mask n b).band

theorem examined_pressing (mask : BitVec 4) (n : Nat) (b : BankState) : Examined (pressSearch mask) (pressing mask n b) := by
  intro i hi
  have h := examined_searching (.press ⟨⟨2243, 1250⟩, mask⟩) ⟨2243, 1250⟩ none i hi
  cases i <;> exact h

/-- A trail of 28 vertices and no READY bank; a READY bank; a trail that fills at the second of four buttons, and a full one: COMMIT
FAILED of several buttons, under CONTINUE and under STOP. -/
theorem witness_PressApplied :
    (∀ mask n b, b = .empty ∨ b = .ready → (pressing mask n b).port.op = .active
      ∧ (pressing mask n b).se.search = some (pressSearch mask) ∧ (pressSearch mask).request = .press ⟨⟨2243, 1250⟩, mask⟩
      ∧ Examined (pressSearch mask) (pressing mask n b) ∧ NoBoundHead (pressing mask n b) ∧ BanksOk (pressing mask n b)
      ∧ ∃ r h, Publishes (pressSearch mask) (pressing mask n b) r ∧ Identifies (pressSearch mask) h)
    ∧ (pressing 15 28 .empty).band.trail.length ≤ 28 ∧ pressFails 15 28 .empty = []
    ∧ (∀ j, ((pressing 15 28 .empty).hv.banks.get j).state ≠ .ready) ∧ ((pressing 1 28 .ready).hv.banks.get .b2).state = .ready
    ∧ (∀ j, (⟨Bank.released, Bank.released, { Bank.released with state := .current }⟩ : Triplet Bank).get j =
      if j = .b2 then { (pressing 1 28 .ready).hv.banks.get j with state := .current }
      else if ((pressing 1 28 .ready).hv.banks.get j).state = .current then Bank.released
      else (pressing 1 28 .ready).hv.banks.get j)
    ∧ pressFails 15 30 .ready = [2] ++ [3] ∧ pressFails 5 32 .empty = [0] ++ [2] ∧ pressFails 5 32 .empty = 0 :: [2]
    ∧ (pressing 5 32 .empty).flt.raised = [] ∧ (pressing 5 32 .empty).flt.responses.input = false
    ∧ (∃ s : State, s = { pressing 5 32 .empty with flt := { live.flt with responses := { live.flt.responses with input := true } } }
      ∧ s.flt.raised = [] ∧ s.flt.responses.input = true ∧ s.port.op = .active) := by
  have banks : ∀ b, b = .empty ∨ b = .ready → BanksOk (completing b) := fun b hb =>
    banksOk_of _ (by rcases hb with rfl | rfl <;> decide)
  refine ⟨fun mask n b hb => ⟨rfl, rfl, ?_, examined_pressing mask n b, noBoundHead_of _ rfl,
    ⟨(banks b hb).oneEach, (banks b hb).capacity, (banks b hb).released⟩, _, _,
    publishes_resultOf _ _, identifies_identityOf _⟩, by decide, by decide, fun j => ?_, rfl, fun j => ?_, by decide, by decide,
    by decide, rfl, rfl, _, rfl, rfl, rfl, rfl⟩
  · rfl
  · cases j <;> decide
  · cases j <;> rfl

/-- A head of kind k HELD behind a search, an overread waiting. -/
def heldHead (k : BitVec 8) : State := { queued (entry k (fields (ofList []))) (searching .motion ⟨2251, 1250⟩ none) with
  flt := { live.flt with raised := [⟨.windowOverread, 15, 0⟩] } }

/-- A held SET SNAP and a held TRAIL CLEAR; a completion, and a stop, that leave no search. -/
theorem witness_HeldHead :
    (heldHead 13).port.op = .active ∧ (heldHead 13).se.search.isSome = true
    ∧ (heldHead 13).dir.queue = [entry 13 (fields (ofList []))] ∧ (entry 13 (fields (ofList []))).kind.toNat = 13
    ∧ (heldHead 22).dir.queue = [entry 22 (fields (ofList []))] ∧ (entry 22 (fields (ofList []))).kind.toNat = 22
    ∧ (∃ u, Machine.exec .searchComplete { heldHead 13 with dir := { (heldHead 13).dir with queue := [] } } = .next u
      ∧ u.se.search = none)
    ∧ (∃ u, Machine.exec .faultTaken { heldHead 13 with dir := { (heldHead 13).dir with queue := [] } } = .next u
      ∧ u.port.op = .bypass) :=
  ⟨rfl, rfl, rfl, by decide, rfl, by decide, ⟨_, rfl, by decide⟩, ⟨_, rfl, by decide⟩⟩

theorem searchOk_searching : SearchOk (searching .motion ⟨2251, 1250⟩ none) where
  bank := fun sr h => by cases h; decide
  cursor := fun sr h => by cases h; decide
  aperture := fun sr h => by cases h; decide
  kept := fun sr h => by
    cases h
    show ∀ c ∈ (searched .motion ⟨2251, 1250⟩ none).kept, c.d2 = dist2 c.point ⟨2251, 1250⟩ ∧ c.d2 ≤ 12 * 12
    decide
  hold := fun sr h c hc => by
    cases h
    have hn : (searched .motion ⟨2251, 1250⟩ none).hold = none := by decide
    exact absurd (hn.symm.trans hc) (by simp)
  presses := fun p hp => by cases hp
  position := by decide
  owed := fun h => absurd h (by decide)
  settings := by decide

theorem witness_SnapDistance :
    ∃ sr t, SearchOk (searching .motion ⟨2251, 1250⟩ none) ∧ (searching .motion ⟨2251, 1250⟩ none).se.search = some sr
      ∧ Examined sr (searching .motion ⟨2251, 1250⟩ none)
      ∧ Machine.exec .searchComplete (searching .motion ⟨2251, 1250⟩ none) = .next t ∧ t.se.result.kind = .object .endpoint :=
  ⟨_, _, searchOk_searching, rfl, examined_searching _ _ _, rfl, by decide⟩

/-- A halfway quotient, the largest length, and a point off the screen seen from one on it. -/
theorem witness_RoundingRootsClamp :
    (0 : Int) < 20000 ∧ (0 : Int) ≤ 1010000 ∧ 10 * 10 ≤ 111 ∧ 111 < (10 + 1) * (10 + 1) ∧ 0 < isqrt 111
    ∧ 33538050 ≤ 2 * 4095 * 4095 ∧ (⟨4095, 0⟩ : Pt).OnScreen := by decide

/-- The segment of section 4.3, a grid of the largest pitch at the limits of the screen, a coordinate halfway between two lattice
values, a table with a direction that competes and
one with none, the shortest dash settings, and the element of R78. -/
theorem witness_PointsComputed :
    ((⟨100, 100⟩ : Pt) = ⟨2300 - 2200, 1300 - 1200⟩ ∧ (20000 : Int) = 100 * 100 + 100 * 100
      ∧ (10100 : Int) = (2251 - 2200) * 100 + (1250 - 1200) * 100)
    ∧ (⟨2251, 1251⟩ : Pt) = nearestOnSegment ⟨2200, 1200⟩ ⟨2300, 1300⟩ ⟨2251, 1250⟩
    ∧ 103 = isqrt (dist2 ⟨2070, 2075⟩ ⟨2000, 2000⟩)
    ∧ (⟨0, 0⟩ : Pt).OnScreen ∧ (⟨4095, 4095⟩ : Pt).OnScreen
    ∧ (2 : Int) ≤ 1024 ∧ (1024 : Int) ≤ 1024 ∧ (0 : Int) ≤ 0 ∧ (1024 : Int) ∣ 4095 - 1023
    ∧ (1024 : Int) ∣ 1024 - 0 ∧ 2 * (1024 - 512) = (1024 : Int)
    ∧ (∃ u ∈ isometric.toList.filter (fun u => decide (u ≠ ⟨0, 0⟩)), (0 : Int) < 200 * u.x + 100 * u.y)
    ∧ (∀ u ∈ ([] : List Pt), 200 * u.x + 100 * u.y ≤ (0 : Int)) ∧ 1 < 2 ∧ 1 ≤ 1
    ∧ 0 < lineLength ⟨1000, 1000⟩ ⟨1030, 1040⟩ ∧ 27 ≤ lineLength ⟨1000, 1000⟩ ⟨1030, 1040⟩ := by decide

/-- The overread of chapter 12, in ACTIVE under STOP, and in BYPASS; a fault under CONTINUE. -/
theorem witness_FaultTaken :
    overread.flt.raised = ⟨.windowOverread, 15, 0⟩ :: []
    ∧ (true = true ↔ (FaultCode.windowOverread.classNumber = 1 ∧ overread.flt.responses.traversal = true)
      ∨ (FaultCode.windowOverread.classNumber = 2 ∧ overread.flt.responses.harvest = true)
      ∨ (FaultCode.windowOverread.classNumber = 3 ∧ overread.flt.responses.directive = true)
      ∨ (FaultCode.windowOverread.classNumber = 4 ∧ overread.flt.responses.input = true)
      ∨ (FaultCode.windowOverread.classNumber = 5 ∧ overread.flt.responses.window = true))
    ∧ overread.port.op = .active ∧ overread.se.search = none
    ∧ (false = true ↔ (FaultCode.trackLost.classNumber = 1 ∧ overread.flt.responses.traversal = true)
      ∨ (FaultCode.trackLost.classNumber = 2 ∧ overread.flt.responses.harvest = true)
      ∨ (FaultCode.trackLost.classNumber = 3 ∧ overread.flt.responses.directive = true)
      ∨ (FaultCode.trackLost.classNumber = 4 ∧ overread.flt.responses.input = true)
      ∨ (FaultCode.trackLost.classNumber = 5 ∧ overread.flt.responses.window = true))
    ∧ bypassed.port.op ≠ .active := by decide

/-- The state s with a directive of kind k and the fields l at the head of its queue. -/
def headed (k : BitVec 8) (l : List Nat) (s : State) : State := queued (entry k (fields (ofList l))) s

theorem witness_AnchorAndTrailRows :
    (∀ k : BitVec 8, k ∈ ([18, 19, 20, 21, 22] : List (BitVec 8)) → ∀ s, s ∈ [drawn [] none, drawn [⟨5, 5⟩] (some ⟨⟨5, 5⟩, false⟩),
        drawn [⟨5, 5⟩, ⟨6, 6⟩] (some ⟨⟨6, 6⟩, true⟩), drawn (List.replicate 31 ⟨5, 5⟩) none, drawn (List.replicate 32 ⟨5, 5⟩) none] →
      AtHead k (entry k (fields (ofList [0x8000, 0x7FFF]))) [] (queued (entry k (fields (ofList [0x8000, 0x7FFF]))) s)
      ∧ s.se.search = none)
    ∧ (⟨0, 4095⟩ : Pt) = ⟨max 0 (min 4095 ((entry 18 (fields (ofList [0x8000, 0x7FFF]))).argS 0)),
      max 0 (min 4095 ((entry 18 (fields (ofList [0x8000, 0x7FFF]))).argS 1))⟩
    ∧ (drawn (List.replicate 31 ⟨5, 5⟩) none).band.trail.length < 32
    ∧ 32 ≤ (drawn (List.replicate 32 ⟨5, 5⟩) none).band.trail.length
    ∧ (drawn [⟨5, 5⟩, ⟨6, 6⟩] (some ⟨⟨6, 6⟩, true⟩)).band.trail = [] ++ [⟨5, 5⟩, ⟨6, 6⟩]
    ∧ (drawn [⟨5, 5⟩] (some ⟨⟨5, 5⟩, false⟩)).band.trail = [⟨5, 5⟩] ∧ (drawn [] none).band.trail = []
    ∧ (drawn [⟨5, 5⟩] (some ⟨⟨5, 5⟩, false⟩)).band.anchor = some ⟨⟨5, 5⟩, false⟩
    ∧ (∀ a, (drawn [⟨5, 5⟩, ⟨6, 6⟩] (some ⟨⟨6, 6⟩, true⟩)).band.anchor ≠ some ⟨a, false⟩) := by
  refine ⟨fun k _ s hs => ⟨atHead_queued _ _ ?_, ?_⟩, by decide, by decide, by decide, rfl, rfl, rfl, rfl, fun a h => by cases h⟩
  all_goals
    simp only [List.mem_cons, List.not_mem_nil, or_false] at hs
    rcases hs with rfl | rfl | rfl | rfl | rfl <;> first | exact observes_live | rfl

theorem witness_SnapSettingRows :
    live.se.search = none
    ∧ (∀ k : BitVec 8, ∀ l : List Nat, AtHead k (entry k (fields (ofList l))) [] (headed k l live))
    ∧ 1 = max 1 (min 255 ((entry 13 (fields (ofList [0, 0, 0, 0, 0, 0, 0]))).argU 6))
    ∧ 255 = max 1 (min 255 ((entry 13 (fields (ofList [0, 0, 0, 0, 0, 0, 65535]))).argU 6)) :=
  ⟨rfl, fun _ _ => atHead_queued _ _ observes_live, by decide, by decide⟩

/-- ACTIVE with a continuation index. -/
def continuing (k : Nat) : State := { live with dir := { live.dir with continuation := some k } }

/-- Counts and starts that end at entry 15, and one beyond it. -/
theorem witness_DirectionRows :
    live.se.search = none ∧ (continuing 10).se.search = none
    ∧ (∀ k l, AtHead k (entry k (fields (ofList l))) [] (headed k l live))
    ∧ (∀ k l, AtHead k (entry k (fields (ofList l))) [] (headed k l (continuing 10)))
    ∧ 5 = max 1 (min 5 ((entry 15 (fields (ofList [11, 6]))).argU 1)) ∧ (entry 15 (fields (ofList [11, 6]))).argU 0 + 5 ≤ 16
    ∧ 16 < (entry 15 (fields (ofList [12, 6]))).argU 0 + 5
    ∧ (∃ d : Vector Pt 16, ∀ i : Fin 16,
      (i.val < 11 ∨ 11 + 5 ≤ i.val → d[i] = live.se.dirs[i])
      ∧ (∀ j : Fin 5, j.val < 5 → i.val = 11 + j.val →
        d[i] = ⟨max (-255) (min 255 ((entry 15 (fields (ofList [11, 6]))).argS ⟨2 + 2 * j.val, by omega⟩)),
          max (-255) (min 255 ((entry 15 (fields (ofList [11, 6]))).argS ⟨3 + 2 * j.val, by omega⟩))⟩))
    ∧ 6 = max 1 (min 6 ((entry 16 (fields (ofList [7]))).argU 0)) ∧ live.dir.continuation = none
    ∧ (continuing 10).dir.continuation = some 10 ∧ 10 + 6 ≤ 16 ∧ 16 < 11 + 6 :=
  ⟨rfl, rfl, fun _ _ => atHead_queued _ _ observes_live, fun _ _ => atHead_queued _ _ (.inr (.inl rfl)), by decide, by decide,
    by decide, ⟨State.reset.se.dirs, by decide⟩, by decide, rfl, rfl, by decide, by decide⟩

/-- Each directive at the head; no bank CURRENT, and one; the first and the last word of the pane and of the window. -/
theorem witness_PaneRows :
    (∀ k l, AtHead k (entry k (fields (ofList l))) [] (headed k l cold))
    ∧ ((⟨0, none⟩ : PeekCopy).pointer = live.pane.peek ∧ currentBank live = none)
    ∧ (∀ i, (none : Option BankId) = some i ↔ (live.hv.banks.get i).state = .current)
    ∧ ((livePeek (at88 ⟨0, 0⟩)).pointer = (at88 ⟨0, 0⟩).pane.peek ∧ (livePeek (at88 ⟨0, 0⟩)).entry.isSome = true)
    ∧ (∀ x, (livePeek (at88 ⟨0, 0⟩)).entry = some x ↔
      ∃ b, currentBank (at88 ⟨0, 0⟩) = some b ∧ b.entries[(at88 ⟨0, 0⟩).pane.peek]? = some x)
    ∧ (∀ i, some BankId.b1 = some i ↔ ((at88 ⟨0, 0⟩).hv.banks.get i).state = .current)
    ∧ (∀ i, (none : Option BankId) = some i ↔ ((at88 ⟨0, 0⟩).hv.banks.get i).state = .ready)
    ∧ (∀ i, (none : Option BankId) = some i ↔ ((at88 ⟨0, 0⟩).hv.banks.get i).state = .filling)
    ∧ Observes live ∧ live.port.strap ≠ 63#6 ∧ (0x08080 : Addr).toNat = live.port.strap.toNat * 0x4000 + 0x80 + 0
    ∧ (0x080BF : Addr).toNat = live.port.strap.toNat * 0x4000 + 0x80 + 63
    ∧ Placed map0 live ∧ 255 < map0.windowLen ∧ (0x060FF : Addr).toNat = map0.windowBase.toNat + 255
    ∧ ¬ (Observes live ∧ InStrapBlock live.port.strap (0x060FF : Addr).toNat
      ∧ live.port.strap.toNat * 0x4000 + 0x80 ≤ (0x060FF : Addr).toNat) := by
  refine ⟨fun _ _ => atHead_queued _ _ observes_cold, ⟨rfl, by decide⟩, fun i => ?_, ⟨rfl, by decide⟩, fun x => ?_,
    fun i => ?_, fun i => ?_, fun i => ?_, observes_live, by decide, by decide, by decide, placed_live _ rfl rfl, by decide,
    by decide, fun h => absurd h.2.2 (by decide)⟩
  · cases i <;> decide
  · rw [livePeek, Option.bind_eq_some_iff]
  · cases i <;> decide
  · cases i <;> decide
  · cases i <;> decide

/-- Indices 0, 1 and 2. -/
theorem witness_FaultSettingRows :
    (∀ k l, AtHead k (entry k (fields (ofList l))) [] (headed k l bypassed))
    ∧ (entry 6 (fields (ofList [0]))).argU 0 = 0 ∧ (entry 6 (fields (ofList [1]))).argU 0 = 1
    ∧ 2 ≤ (entry 6 (fields (ofList [2]))).argU 0 :=
  ⟨fun _ _ => atHead_queued _ _ observes_bypassed, by decide, by decide, by decide⟩

/-- In ACTIVE and outside it; SET BLINK with a preset, with a change of mode, and with neither. -/
theorem witness_FreezeAndBlinkRows :
    (∀ k l, AtHead k (entry k (fields (ofList l))) [] (headed k l live)) ∧ live.port.op = .active
    ∧ (∀ k l, AtHead k (entry k (fields (ofList l))) [] (headed k l bypassed)) ∧ bypassed.port.op ≠ .active
    ∧ (entry 9 (fields (ofList [0, 300, 1, 0, 0, 1, 1, 1]))).argU 7 ≠ 0
    ∧ min 255 ((entry 9 (fields (ofList [0, 300, 1, 0, 0, 1, 1, 1]))).argU 1) = 255
    ∧ decide ((entry 9 (fields (ofList [1]))).argU 0 ≠ 0) ≠ live.pat.cascade
    ∧ ((entry 9 (fields (ofList [0]))).argU 7 = 0 ∧ decide ((entry 9 (fields (ofList [0]))).argU 0 ≠ 0) = live.pat.cascade) :=
  ⟨fun _ _ => atHead_queued _ _ observes_live, rfl, fun _ _ => atHead_queued _ _ observes_bypassed, by decide, by decide, by decide,
    by decide, by decide⟩

/-- The same source; a new one with the proximity as it was; one that brings it IN; one that takes it OUT. -/
theorem witness_InputRows :
    (∀ k l, AtHead k (entry k (fields (ofList l))) [] (headed k l live))
    ∧ (∀ k l, AtHead k (entry k (fields (ofList l))) [] (headed k l (directed ⟨0, 0⟩)))
    ∧ Source.tablet = live.cu.source
    ∧ (Source.none ≠ live.cu.source ∧ decide (Source.none = .wheels ∨ Source.none = .directed) = live.cu.inRange)
    ∧ (Source.wheels ≠ live.cu.source ∧ live.cu.inRange = false)
    ∧ (Source.tablet ≠ (directed ⟨0, 0⟩).cu.source ∧ (directed ⟨0, 0⟩).cu.inRange = true)
    ∧ (entry 10 (fields (ofList [65535]))).argU 0 = 65535 :=
  ⟨fun _ _ => atHead_queued _ _ observes_live, fun _ _ => atHead_queued _ _ (.inr (.inl rfl)), rfl, by decide, by decide, by decide,
    by decide⟩

/-- ACTIVE with the source DIRECTED and the proximity OUT. -/
def directedOut : State := { live with cu := { live.cu with source := .directed } }

/-- A move and a mask of two mapped buttons; a move to where the cursor stands; the source TABLET. -/
theorem witness_CursorRow :
    (∀ k l, AtHead k (entry k (fields (ofList l))) [] (headed k l (directed ⟨0, 0⟩)))
    ∧ (directed ⟨0, 0⟩).cu.source = .directed ∧ (directed ⟨0, 0⟩).cu.inRange = true
    ∧ (⟨0, 4095⟩ : Pt) = ⟨max 0 (min 4095 ((entry 11 (fields (ofList [0xFFFF, 5000, 5]))).argS 0)),
      max 0 (min 4095 ((entry 11 (fields (ofList [0xFFFF, 5000, 5]))).argS 1))⟩
    ∧ (⟨0, 4095⟩ : Pt) ≠ (directed ⟨0, 0⟩).cu.pos
    ∧ (⟨0, 0⟩ : Pt) = ⟨max 0 (min 4095 ((entry 11 (fields (ofList [0, 0, 5]))).argS 0)),
      max 0 (min 4095 ((entry 11 (fields (ofList [0, 0, 5]))).argS 1))⟩ ∧ (⟨0, 0⟩ : Pt) = (directed ⟨0, 0⟩).cu.pos
    ∧ ([0, 2] : List (Fin 4)) = ([0, 1, 2, 3] : List (Fin 4)).filter
      (fun b => decide ((entry 11 (fields (ofList [0, 0, 5]))).argU 2 / 2 ^ b.val % 2 = 1) && ((directed ⟨0, 0⟩).cu.map[b]).isSome)
    ∧ live.cu.source ≠ .directed ∧ 1 = 4 - (pressed 3).se.presses.length
    ∧ directedOut.cu.source = .directed ∧ directedOut.cu.inRange = false ∧ directedOut.cu.pos = ⟨2048, 2048⟩
    ∧ (∀ k l, AtHead k (entry k (fields (ofList l))) [] (headed k l directedOut)) :=
  ⟨fun _ _ => atHead_queued _ _ (.inr (.inl rfl)), rfl, rfl, by decide, by decide, by decide, rfl, by decide, by decide, by decide,
    rfl, rfl, rfl, fun _ _ => atHead_queued _ _ (.inr (.inl rfl))⟩

/-- Periods 0, 1 and 300; kinds 28 and 255. -/
theorem witness_BandStyleUnknownRows :
    (∀ k l, AtHead k (entry k (fields (ofList l))) [] (headed k l live))
    ∧ 0 = (if (entry 23 (fields (ofList [4, 0]))).argU 1 = 0 then 0 else max 2 (min 255 ((entry 23 (fields (ofList [4, 0]))).argU 1)))
    ∧ 2 = (if (entry 23 (fields (ofList [4, 1]))).argU 1 = 0 then 0 else max 2 (min 255 ((entry 23 (fields (ofList [4, 1]))).argU 1)))
    ∧ 255 = (if (entry 23 (fields (ofList [4, 300]))).argU 1 = 0 then 0
      else max 2 (min 255 ((entry 23 (fields (ofList [4, 300]))).argU 1)))
    ∧ 28 ≤ (28 : BitVec 8).toNat ∧ 28 ≤ (255 : BitVec 8).toNat :=
  ⟨fun _ _ => atHead_queued _ _ observes_live, by decide, by decide, by decide, by decide, by decide⟩

/-- One record of each kind, at the limits of its range. -/
theorem witness_RecordsDecode :
    ∀ r ∈ [Rec.entity 7, .move ⟨0, 4095⟩, .draw ⟨4095, 0⟩, .circle ⟨4095, 4095⟩ 4095, .ret], r.Ok ∧ ∃ w l, r.encode = w :: l := by
  intro r h
  simp only [List.mem_cons, List.not_mem_nil, or_false] at h
  rcases h with rfl | rfl | rfl | rfl | rfl <;> exact ⟨by simp [Rec.Ok, Pt.OnScreen], _, _, rfl⟩

/-- A search with nothing left to examine, its completion commanded. -/
def commanded : State := { searching .motion ⟨2251, 1250⟩ none with pending := [.searchComplete] }

theorem bandOk_commanded : BandOk commanded where
  length := by decide
  linked := fun _ h => by cases h
  anchor := fun _ h => by cases h
  trail := fun _ h => by cases h
  commit := by decide
  result := by decide

theorem searchOk_commanded : SearchOk commanded where
  bank := searchOk_searching.bank
  cursor := searchOk_searching.cursor
  aperture := searchOk_searching.aperture
  kept := searchOk_searching.kept
  hold := searchOk_searching.hold
  presses := searchOk_searching.presses
  position := searchOk_searching.position
  owed := searchOk_searching.owed
  settings := searchOk_searching.settings

theorem capacityOk_commanded : CapacityOk commanded where
  geometry := by decide
  presses := by decide
  directives := by decide
  continuation := fun _ h => by cases h
  peek := by decide
  peekCopy := fun _ h => by cases h
  calls := by decide
  openCall := fun _ _ h => by cases h
  map := fun _ h => by
    cases h
    exact ⟨map0_formed, map0_fits⟩
  ring := ⟨by decide, fun _ h => by cases h; decide⟩

theorem modeOk_commanded : ModeOk commanded where
  outside := fun h => absurd rfl h
  active := fun _ => by decide
  passive := fun h => by cases h
  bypass := fun h => by cases h
  disabled := fun h => by cases h
  silent := fun h => by rcases h with h | h <;> cases h
  tracker := fun _ => by decide

theorem composedOk_empty : Composed.emptyList.Ok 256 where
  recs := fun r h => by
    simp only [Composed.emptyList, List.mem_cons, List.not_mem_nil, or_false] at h
    subst h
    trivial
  ends := ⟨[], rfl, by simp⟩
  fits := by decide
  shed := by decide

theorem drawnOk_commanded : DrawnOk commanded where
  limit := by decide
  staged := composedOk_empty
  serving := composedOk_empty
  pass := fun _ h => by cases h
  style := by unfold Style.Ok; decide
  cursor := by decide
  band := bandOk_commanded

theorem witness_StepKeepsBlocks :
    (∃ t, Machine.step commanded = .next t) ∧ BanksOk commanded ∧ BandOk commanded ∧ PatternOk commanded ∧ SearchOk commanded :=
  ⟨⟨_, rfl⟩, banksOk_of _ (by decide), bandOk_commanded, patternOk_of _ (by decide), searchOk_commanded⟩

theorem witness_StepKeepsCapacitiesAndModes :
    (∃ t, Machine.step commanded = .next t) ∧ CapacityOk commanded ∧ ModeOk commanded :=
  ⟨⟨_, rfl⟩, capacityOk_commanded, modeOk_commanded⟩

theorem witness_StepKeepsLists : (∃ t, Machine.step commanded = .next t) ∧ DrawnOk commanded :=
  ⟨⟨_, rfl⟩, drawnOk_commanded⟩

end Sys2Proof.Tests
end

/-! PROOFS. Rounding, floor, nearest root and clamp of snap arithmetic (chapter 4): the facts about each function, and the
statement on the four of them. -/

namespace Sys2Proof.Machine

/-! ### Rounded and floored quotients (R64) -/

theorem roundDiv_eq_sign_mul (p q : Int) : roundDiv p q = p.sign * ((2 * |p| + q) / (2 * q)) := by
  rw [roundDiv, Int.abs_eq_natAbs]

/-- The magnitude of a rounded quotient is the quotient of the magnitudes, one half added and rounded down. -/
theorem abs_roundDiv (p : Int) {q : Int} (hq : 0 < q) : |roundDiv p q| = (2 * |p| + q) / (2 * q) := by
  rw [roundDiv_eq_sign_mul, abs_mul]
  rcases eq_or_ne p 0 with rfl | hp
  · have hzero : q / (2 * q) = 0 := Int.ediv_eq_zero_of_lt hq.le (by omega)
    simp [hzero]
  · have hquot : 0 ≤ (2 * |p| + q) / (2 * q) := Int.ediv_nonneg (by positivity) (by positivity)
    rw [Int.abs_sign_of_ne_zero hp, abs_of_nonneg hquot, one_mul]

theorem two_mul_abs_roundDiv_le (p : Int) {q : Int} (hq : 0 < q) : 2 * q * |roundDiv p q| ≤ 2 * |p| + q := by
  rw [abs_roundDiv p hq]
  exact Int.mul_ediv_self_le (by omega)

theorem lt_two_mul_abs_roundDiv_add_one (p : Int) {q : Int} (hq : 0 < q) :
    2 * |p| + q < 2 * q * (|roundDiv p q| + 1) := by
  rw [abs_roundDiv p hq, mul_add_one]
  exact Int.lt_mul_ediv_self_add (by omega)

theorem floorDiv_mul_le (p : Int) {q : Int} (hq : 0 < q) : floorDiv p q * q ≤ p :=
  Int.ediv_mul_le p hq.ne'

theorem le_floorDiv_of_mul_le {p q k : Int} (hq : 0 < q) (hk : k * q ≤ p) : k ≤ floorDiv p q :=
  Int.le_ediv_of_mul_le hq hk

theorem floorDiv_eq_natDiv {p q : Int} (hp : 0 ≤ p) (hq : 0 < q) : floorDiv p q = (p.toNat / q.toNat : Nat) := by
  rw [floorDiv, Int.natCast_ediv, Int.toNat_of_nonneg hp, Int.toNat_of_nonneg hq.le]

/-! ### The nearest root (R65) -/

/-- The bit by bit search holds the root between r and r + 2^k, and ends with k = 0. -/
theorem sqrtFrom_eq_sqrt (k n r : Nat) (hle : r * r ≤ n) (hlt : n < (r + 2 ^ k) * (r + 2 ^ k)) :
    sqrtFrom k n r = n.sqrt := by
  induction k generalizing r with
  | zero => exact Nat.eq_sqrt.mpr ⟨hle, hlt⟩
  | succ k ih =>
    unfold sqrtFrom
    split
    · next hbit =>
      exact ih (r + 2 ^ k) hbit (by rwa [Nat.add_assoc, ← Nat.two_mul, ← Nat.pow_succ'])
    · next hbit => exact ih r hle (Nat.lt_of_not_le hbit)

theorem floorSqrt_eq_sqrt (n : Nat) : floorSqrt n = n.sqrt := by
  have hlog : n < 2 ^ (n.log2 + 1) := Nat.lt_log2_self
  have hbits : 2 ^ (n.log2 + 1) ≤ 2 ^ (n.log2 / 2 + 1) * 2 ^ (n.log2 / 2 + 1) := by
    rw [← Nat.pow_add]
    exact Nat.pow_le_pow_right (by decide) (by omega)
  exact sqrtFrom_eq_sqrt _ n 0 (by omega) (by rw [Nat.zero_add]; omega)

theorem isqrt_eq_of_floor {n r : Nat} (hle : r * r ≤ n) (hlt : n < (r + 1) * (r + 1)) :
    isqrt n = if r < n - r * r then r + 1 else r := by
  simp only [isqrt, floorSqrt_eq_sqrt, ← Nat.eq_sqrt.mpr ⟨hle, hlt⟩, gt_iff_lt]

/-- The two outcomes of the rounding: n lies in the lower half between two squares, or in the upper half. -/
theorem isqrt_cases (n : Nat) :
    (∃ r, isqrt n = r ∧ r * r ≤ n ∧ n ≤ r * r + r) ∨ (∃ r, isqrt n = r + 1 ∧ r * r + r < n ∧ n < (r + 1) * (r + 1)) := by
  have hle := Nat.sqrt_le n
  have hlt := Nat.lt_succ_sqrt n
  rw [isqrt_eq_of_floor hle hlt]
  split
  · exact .inr ⟨n.sqrt, rfl, by omega, hlt⟩
  · exact .inl ⟨n.sqrt, rfl, hle, by omega⟩

/-- The root of n lies less than one half above isqrt n. -/
theorem four_mul_lt_isqrt (n : Nat) : 4 * n < (2 * isqrt n + 1) * (2 * isqrt n + 1) := by
  obtain ⟨r, hr, -, hupper⟩ | ⟨r, hr, -, hupper⟩ := isqrt_cases n
  all_goals rw [hr]; linarith

/-- The root of n lies less than one half below isqrt n. -/
theorem isqrt_lt_four_mul {n : Nat} (h : 0 < isqrt n) : (2 * isqrt n - 1) * (2 * isqrt n - 1) < 4 * n := by
  obtain ⟨r, hr, hlower, -⟩ | ⟨r, hr, hlower, -⟩ := isqrt_cases n
  · obtain ⟨k, rfl⟩ := Nat.exists_eq_add_of_lt (hr ▸ h)
    rw [hr, show 2 * (0 + k + 1) - 1 = 2 * k + 1 by omega]
    linarith
  · rw [hr, show 2 * (r + 1) - 1 = 2 * r + 1 by omega]
    linarith

/-- The largest squared length on the screen. -/
theorem isqrt_le_of_screen {n : Nat} (hn : n ≤ 2 * 4095 * 4095) : isqrt n ≤ 5791 := by
  by_contra hbig
  have hlow := isqrt_lt_four_mul (n := n) (by omega)
  have hsq : 11583 * 11583 ≤ (2 * isqrt n - 1) * (2 * isqrt n - 1) := Nat.mul_le_mul (by omega) (by omega)
  omega

/-! ### The clamp (R66) -/

theorem clampCoord_eq (v : Int) : clampCoord v = if v < 0 then 0 else if 4095 < v then 4095 else v := by
  unfold clampCoord
  split_ifs <;> omega

theorem clampEdge_iff (p : Pt) : clampEdge p = true ↔ clampPt p ≠ p := bne_iff_ne

/-- On one axis, the clamp moves a coordinate no farther from a coordinate on the screen. -/
theorem abs_clampCoord_sub_le (v : Int) {c : Int} (h0 : 0 ≤ c) (h1 : c ≤ 4095) : |clampCoord v - c| ≤ |v - c| := by
  rw [abs_le]
  unfold clampCoord
  cases abs_cases (v - c) <;> omega

theorem dist2_clampPt_le (p : Pt) {c : Pt} (hc : c.OnScreen) : dist2 (clampPt p) c ≤ dist2 p c := by
  obtain ⟨hx0, hx1, hy0, hy1⟩ := hc
  have hx := abs_le_iff_mul_self_le.mp (abs_clampCoord_sub_le p.x hx0 hx1)
  have hy := abs_le_iff_mul_self_le.mp (abs_clampCoord_sub_le p.y hy0 hy1)
  exact Int.toNat_le_toNat (add_le_add hx hy)

/-! ### The statement -/

/-- Settles O44, clause by clause from the facts above. -/
theorem roundingRootsClamp : Obligations.RoundingRootsClamp :=
  ⟨fun p _ hq => ⟨roundDiv_eq_sign_mul p _, two_mul_abs_roundDiv_le p hq, lt_two_mul_abs_roundDiv_add_one p hq⟩,
    fun _ _ _ _ => rfl,
    fun p _ hq => ⟨floorDiv_mul_le p hq, fun _ => le_floorDiv_of_mul_le hq, fun hp => floorDiv_eq_natDiv hp hq⟩,
    fun _ _ => isqrt_eq_of_floor,
    fun n => ⟨four_mul_lt_isqrt n, isqrt_lt_four_mul, isqrt_le_of_screen⟩,
    fun p => ⟨by rw [← clampCoord_eq, ← clampCoord_eq, clampPt], clampEdge_iff p, fun _ => dist2_clampPt_le p⟩⟩

end Sys2Proof.Machine

/-! PROOFS. The execution of a directive at the head of the queue (chapter 10), what the anchor and trail directives do to the
Band Unit (chapter 6), and the statement on the five of them. -/

namespace Sys2Proof.Machine

/-! ### One execution at the head (R163, R165 to R168) -/

section Execution

variable {code : BitVec 8} {e : DirEntry} {rest : List DirEntry} {s t : State} {f : Effect} {r : Reason} {i : Instr}

theorem leaveQueue_eq (hq : t.dir.queue = e :: rest) : leaveQueue t = { t with
    dir := { t.dir with queue := rest }
    pane := { t.pane with flags := if rest = [] then t.pane.flags ||| 0x100#9 else t.pane.flags } } := by
  cases rest with
  | nil => simp only [leaveQueue, hq, List.tail_cons, List.isEmpty_nil, if_true]; rfl
  | cons => simp [leaveQueue, hq]

theorem executeEntry_eq_accepted (hf : f e s = (t, none)) (hq : t.dir.queue = e :: rest) :
    executeEntry f e s = accepted e rest t := by
  rw [executeEntry, hf]
  exact leaveQueue_eq hq

/-- REFUSED and DRAINED are set one after the other, and stand together in the flags of `refused`. -/
theorem executeEntry_eq_refused (hf : f e s = (s, some r)) (hq : s.dir.queue = e :: rest) :
    executeEntry f e s = refused e rest r s := by
  have hbits : s.pane.flags ||| 0x080#9 ||| 0x100#9 = s.pane.flags ||| 0x180#9 := by rw [BitVec.or_assoc]; rfl
  simp only [executeEntry, hf, noteRefusal, raise, setEvent, reportOutcome]
  rw [refused, ← hbits]
  exact leaveQueue_eq hq

theorem mayExecute_of_observes (ho : Observes s) (hb : e.dirKind.searchBound = false ∨ s.se.search = none) :
    mayExecute e s = true := by
  have hstate : (s.port.op == .passive || s.port.op == .active || s.port.op == .bypass) = true := by
    simpa [Observes, or_assoc] using ho
  have hsearch : (!e.dirKind.searchBound || s.se.search.isNone) = true := by simpa using hb
  rw [mayExecute, hstate, hsearch, Bool.and_self]

theorem AtHead.runDirective_eq (h : AtHead code e rest s) (hb : e.dirKind.searchBound = false ∨ s.se.search = none) :
    runDirective (kindOfCode code) f s = executeEntry f e s := by
  obtain ⟨hq, rfl, ho⟩ := h
  simp only [runDirective, hq, mayExecute_of_observes ho hb, and_true]
  exact if_pos rfl

/-- The row i runs the effect f on the head, which accepts and leaves t. -/
theorem AtHead.exec_accepted (h : AtHead code e rest s) (hb : e.dirKind.searchBound = false ∨ s.se.search = none)
    (hi : exec i s = .next (runDirective (kindOfCode code) f s)) (hf : f e s = (t, none))
    (hq : t.dir.queue = s.dir.queue) : exec i s = .next (accepted e rest t) := by
  rw [hi, h.runDirective_eq hb, executeEntry_eq_accepted hf (hq.trans h.1)]

theorem AtHead.exec_refused (h : AtHead code e rest s) (hb : e.dirKind.searchBound = false ∨ s.se.search = none)
    (hi : exec i s = .next (runDirective (kindOfCode code) f s)) (hf : f e s = (s, some r)) :
    exec i s = .next (refused e rest r s) := by
  rw [hi, h.runDirective_eq hb, executeEntry_eq_refused hf h.1]

/-- The owner is the Band Unit: the new band and a trigger, which leave the queue as it is. -/
theorem AtHead.exec_band {b : Band} (h : AtHead code e rest s)
    (hb : e.dirKind.searchBound = false ∨ s.se.search = none)
    (hi : exec i s = .next (runDirective (kindOfCode code) f s)) (hf : f e s = (trigger (setBandUnit b s), none)) :
    exec i s = .next (accepted e rest (trigger { s with band := b })) :=
  h.exec_accepted hb hi hf (by simp)

end Execution

/-! ### The effects on the Band Unit (R105 to R108) -/

section Effects

variable (e : DirEntry) {s : State}

theorem applyTrailAppend_of_lt (h : s.band.trail.length < 32) :
    applyTrailAppend e s = (trigger (setBandUnit (s.band.append (argPoint e)) s), none) := if_pos h

theorem applyTrailAppend_of_full (h : 32 ≤ s.band.trail.length) : applyTrailAppend e s = (s, some .trailFull) :=
  if_neg (Nat.not_lt.mpr h)

/-- TRAIL DROP of a trail that ends in w: the anchor follows the vertex before w, if there is one. -/
theorem applyTrailDrop_of_concat {l : List Pt} {w : Pt} (h : s.band.trail = l ++ [w]) :
    applyTrailDrop e s = (trigger (setBandUnit { s.band with
      trail := l, anchor := l.getLast?.map fun v => ⟨v, true⟩ } s), none) := by
  simp [applyTrailDrop, Band.dropNewest, h]

theorem applyTrailDrop_of_nil (h : s.band.trail = []) : applyTrailDrop e s = (s, some .trailEmpty) := by
  simp [applyTrailDrop, h]

/-- TRAIL CLEAR keeps a FREE anchor. -/
theorem applyTrailClear_of_free {a : Pt} (h : s.band.anchor = some ⟨a, false⟩) :
    applyTrailClear e s = (trigger (setBandUnit { s.band with trail := [] } s), none) := by
  have hkept : freeAnchor s.band.anchor = s.band.anchor := by rw [h]; rfl
  rw [applyTrailClear, hkept]

/-- TRAIL CLEAR leaves no anchor where it is LINKED or absent. -/
theorem applyTrailClear_of_not_free (h : ∀ a, s.band.anchor ≠ some ⟨a, false⟩) :
    applyTrailClear e s = (trigger (setBandUnit { s.band with trail := [], anchor := none } s), none) := by
  have hgone : freeAnchor s.band.anchor = none := by
    match hx : s.band.anchor with
    | none | some ⟨_, true⟩ => rfl
    | some ⟨a, false⟩ => exact absurd hx (h a)
  rw [applyTrailClear, hgone]

end Effects

/-! ### The statement -/

/-- Settles O47: each clause is the execution of the head with the effect of its case. -/
theorem anchorAndTrailRows : Obligations.AnchorAndTrailRows := by
  intro e rest s p hs hp
  obtain rfl : p = argPoint e := hp
  have hb : e.dirKind.searchBound = false ∨ s.se.search = none := .inr hs
  refine ⟨fun h => ?setAnchor, fun h => ?clearAnchor, fun h hroom => ?append, fun h hfull => ?appendFull,
    fun l v w h htrail => ?dropLinked, fun w h htrail => ?dropLast, fun h hnil => ?dropEmpty,
    fun a h hfree => ?clearFree, fun h hnotFree => ?clearOther⟩
  case setAnchor => exact h.exec_band hb (f := applySetAnchor) rfl rfl
  case clearAnchor => exact h.exec_band hb (f := applyClearAnchor) rfl rfl
  case append => exact h.exec_band hb rfl (applyTrailAppend_of_lt e hroom)
  case appendFull => exact h.exec_refused hb rfl (applyTrailAppend_of_full e hfull)
  case dropLinked =>
    have htrail' : s.band.trail = l ++ [v] ++ [w] := by simp [htrail]
    have heffect := applyTrailDrop_of_concat e htrail'
    rw [List.getLast?_concat] at heffect
    exact h.exec_band hb rfl heffect
  case dropLast => exact h.exec_band hb rfl (applyTrailDrop_of_concat (l := []) e htrail)
  case dropEmpty => exact h.exec_refused hb rfl (applyTrailDrop_of_nil e hnil)
  case clearFree => exact h.exec_band hb rfl (applyTrailClear_of_free e hfree)
  case clearOther => exact h.exec_band hb rfl (applyTrailClear_of_not_free e hnotFree)

end Sys2Proof.Machine

/-! PROOFS. A write to an address of the strap block (chapter 9), the posting of a directive (chapter 10), and the statement on
it. -/

namespace Sys2Proof.Machine

section Posting

variable {s : State} {slot : BitVec 4} {w : Word} {a : Addr} {o : Nat} {e : DirEntry}

/-! ### A write to the strap block by its offset (R147, R148) -/

theorem observesWrites_iff : observesWrites s = true ↔ Observes s := by
  simp [observesWrites, Observes, or_assoc]

/-- The highest strap block, with strap value 62, lies within the 20 address bits, so that no offset wraps. -/
theorem strapOffset_ofNat {strap : BitVec 6} (hs : strap ≠ 63#6) (ho : o < 192) :
    strapOffset strap (BitVec.ofNat 20 (strap.toNat * 0x4000 + o)) = some o := by
  have hstrap : strap.toNat < 63 := by bv_omega
  have haddr : (BitVec.ofNat 20 (strap.toNat * 0x4000 + o)).toNat = strap.toNat * 0x4000 + o :=
    (BitVec.toNat_ofNat ..).trans (Nat.mod_eq_of_lt (by omega))
  rw [strapOffset, strapBase, if_neg hs, Option.bind_some, haddr, if_pos (by omega), Nat.add_sub_cancel_left]

theorem writeStrap_eq_takeWrite (hs : s.port.strap ≠ 63#6) :
    writeStrap o w s = takeWrite (BitVec.ofNat 20 (s.port.strap.toNat * 0x4000 + o)) w s := by
  rw [writeStrap, strapBase, if_neg hs]

theorem takeWrite_of_not_observes (hn : ¬ Observes s) : takeWrite a w s = setBus (some (.write a w)) none s :=
  if_neg (mt observesWrites_iff.mp hn)

theorem takeWrite_of_strapOffset (hobs : Observes s) (ho : strapOffset s.port.strap a = some o) :
    takeWrite a w s = handStrap o w (setBus (some (.write a w)) none s) := by
  have hobs' : observesWrites (setBus (some (.write a w)) none s) = true := observesWrites_iff.mpr hobs
  rw [takeWrite, handWrite, if_pos hobs', setBus_port, ho]

/-! ### The entry and the queue (R160, R162) -/

theorem ofNat_bitsOf (lo len : Nat) : BitVec.ofNat len (bitsOf w lo len) = w.extractLsb' lo len := by
  apply BitVec.eq_of_toNat_eq
  simp [bitsOf, Nat.shiftRight_eq_div_pow]

theorem shadowArgs_eq {sh : Vector Word 112} {args : Vector Word 7}
    (h : ∀ i : Fin 7, some args[i] = sh[7 * slot.toNat + i.val]?) : shadowArgs slot sh = args := by
  refine Vector.ext fun i hi => ?_
  have hread := h ⟨i, hi⟩
  rw [Vector.getElem?_eq_getElem (by have := slot.isLt; omega)] at hread
  rw [shadowArgs, Vector.getElem_ofFn]
  exact (Option.some.inj hread).symm

theorem postedEntry_eq (hslot : e.slot = slot) (hkind : e.kind = w.extractLsb' 24 8) (htag : e.tag = w.extractLsb' 16 8)
    (hargs : ∀ i : Fin 7, some e.args[i] = s.dir.shadow[7 * slot.toNat + i.val]?) : postedEntry slot w s = e := by
  rw [postedEntry, ofNat_bitsOf, ofNat_bitsOf, shadowArgs_eq hargs, ← hslot, ← hkind, ← htag]

theorem postSlot_of_kind_zero (he : postedEntry slot w s = e) (hk : e.kind = 0) : postSlot slot w s = s := by
  subst he
  exact if_pos hk

theorem postSlot_of_room (he : postedEntry slot w s = e) (hk : e.kind ≠ 0) (hroom : s.dir.queue.length < 16) :
    postSlot slot w s = { s with dir := { s.dir with queue := s.dir.queue ++ [e] } } := by
  subst he
  exact (if_neg hk).trans (if_pos hroom)

theorem postSlot_of_full (he : postedEntry slot w s = e) (hk : e.kind ≠ 0) (hfull : 16 ≤ s.dir.queue.length) :
    postSlot slot w s = raise .queueOverflow (slot.setWidth 20) e.tag s := by
  subst he
  exact (if_neg hk).trans (if_neg (Nat.not_lt.mpr hfull))

/-- Offset 8 s of the strap block is word 0 of slot s. -/
theorem handStrap_header : handStrap (8 * slot.toNat) w s = postSlot slot w s := by
  have hslot : 8 * slot.toNat < 128 := by have := slot.isLt; omega
  rw [handStrap, if_pos hslot, if_pos (Nat.mul_mod_right 8 _), Nat.mul_div_cancel_left _ (by decide),
    BitVec.ofNat_toNat, BitVec.setWidth_eq]

/-! ### The row -/

theorem exec_directivePosting (hs : s.port.strap ≠ 63#6) : exec (.directivePosting slot w) s =
    .next (takeWrite (BitVec.ofNat 20 (s.port.strap.toNat * 0x4000 + 8 * slot.toNat)) w s) :=
  congrArg Host.Outcome.next (writeStrap_eq_takeWrite hs)

theorem exec_directivePosting_of_not_observes (hs : s.port.strap ≠ 63#6) (hn : ¬ Observes s) :
    exec (.directivePosting slot w) s = .next
      (setBus (some (.write (BitVec.ofNat 20 (s.port.strap.toNat * 0x4000 + 8 * slot.toNat)) w)) none s) := by
  rw [exec_directivePosting hs, takeWrite_of_not_observes hn]

theorem exec_directivePosting_of_observes (hs : s.port.strap ≠ 63#6) (hobs : Observes s) :
    exec (.directivePosting slot w) s = .next (postSlot slot w
      (setBus (some (.write (BitVec.ofNat 20 (s.port.strap.toNat * 0x4000 + 8 * slot.toNat)) w)) none s)) := by
  have hoffset : 8 * slot.toNat < 192 := by have := slot.isLt; omega
  rw [exec_directivePosting hs, takeWrite_of_strapOffset hobs (strapOffset_ofNat hs hoffset), handStrap_header]

end Posting

/-! ### The statement -/

/-- Settles O13: where writes are observed, the row is the posting of the entry e in u, the state after the bus transfer. -/
theorem directivePosted : Obligations.DirectivePosted := by
  intro slot w s u e hs hu hslot hkind htag hargs
  have hposting : Observes s → exec (.directivePosting slot w) s = .next (postSlot slot w u) := fun hobs =>
    hu ▸ exec_directivePosting_of_observes hs hobs
  have hdir : u.dir = s.dir := by rw [hu]
  have hflt : u.flt = s.flt := by rw [hu]
  have he : postedEntry slot w u = e := postedEntry_eq hslot hkind htag (hdir ▸ hargs)
  refine ⟨fun hn => ?silent, fun hobs hk => ?empty, fun hobs hk hroom => ?queued, fun hobs hk hfull => ?overflow⟩
  case silent => exact hu ▸ exec_directivePosting_of_not_observes hs hn
  case empty => rw [hposting hobs, postSlot_of_kind_zero he hk]
  case queued => rw [hposting hobs, postSlot_of_room he hk (hdir ▸ hroom), hdir]
  case overflow => rw [hposting hobs, postSlot_of_full he hk (hdir ▸ hfull), raise, hflt]

end Sys2Proof.Machine

/-! PROOFS. A HOST read of a status pane word (chapters 9 and 11), and the statement on the reads that open and close the result
and commit latches. -/

namespace Sys2Proof.Machine

section PaneReads

variable {s : State} {k i : Nat} {mem : Word} {act : State → State}

/-! ### A HOST read of a pane word by its number (R147, R149) -/

theorem paneAnswers_iff : paneAnswers s = true ↔ Observes s := observesWrites_iff

theorem hostPaneRead_of_observes (hs : s.port.strap ≠ 63#6) (hobs : Observes s) :
    hostPaneRead k mem act s = act (answerRead (hostPaneWord s k) s) := by
  rw [hostPaneRead, strapBase, if_neg hs]
  exact if_pos (paneAnswers_iff.mpr hobs)

theorem hostPaneRead_of_not_observes (hs : s.port.strap ≠ 63#6) (hn : ¬ Observes s) :
    hostPaneRead k mem act s = forwardRead (BitVec.ofNat 20 (s.port.strap.toNat * 0x4000 + (128 + k))) mem s := by
  rw [hostPaneRead, strapBase, if_neg hs, ← Nat.add_assoc]
  exact if_neg (mt paneAnswers_iff.mp hn)

/-! ### The words of the result and commit records in the pane (R169, R171) -/

/-- The result record is words 10 to 17, and the commit record words 18 to 21. -/
theorem paneWords_eq_append (r : Result) (c : CommitRecord) (p : PeekCopy) (s : State) :
    ∃ before after, before.length = 10 ∧ paneWords r c p s = before ++ (r.words ++ (c.words ++ after)) := by
  simp only [paneWords, List.append_assoc]
  exact ⟨_, _, rfl, by rw [← List.append_assoc, ← List.append_assoc]⟩

theorem paneWords_getElem?_result (r : Result) (c : CommitRecord) (p : PeekCopy) (s : State) (hi : i < 8) :
    (paneWords r c p s)[10 + i]? = r.words[i]? := by
  obtain ⟨before, after, hlen, heq⟩ := paneWords_eq_append r c p s
  rw [heq, ← hlen, List.getElem?_append_right (Nat.le_add_right ..), Nat.add_sub_cancel_left,
    List.getElem?_append_left hi]

theorem paneWords_getElem?_commit (r : Result) (c : CommitRecord) (p : PeekCopy) (s : State) (hi : i < 4) :
    (paneWords r c p s)[18 + i]? = c.words[i]? := by
  obtain ⟨before, after, hlen, heq⟩ := paneWords_eq_append r c p s
  have hplace : 18 + i = before.length + (r.words.length + i) := by rw [hlen, ← Nat.add_assoc]; rfl
  rw [heq, hplace, List.getElem?_append_right (Nat.le_add_right ..), Nat.add_sub_cancel_left,
    List.getElem?_append_right (Nat.le_add_right ..), Nat.add_sub_cancel_left, List.getElem?_append_left hi]

/-- The read of the record's first word takes a fresh copy, and the others are answered from an open latch. -/
theorem some_hostPaneWord_result (s : State) (hi : i < 8) :
    some (hostPaneWord s (10 + i)) = (if i = 0 then s.se.result else s.pane.resultLatch.getD s.se.result).words[i]? := by
  simp only [hostPaneWord, paneWords_getElem?_result _ _ _ _ hi, Nat.add_eq_left]
  rw [List.getElem?_eq_getElem hi, Option.getD_some]

theorem some_hostPaneWord_commit (s : State) (hi : i < 4) :
    some (hostPaneWord s (18 + i)) =
      (if i = 0 then s.band.commit else s.pane.commitLatch.getD s.band.commit).words[i]? := by
  simp only [hostPaneWord, paneWords_getElem?_commit _ _ _ _ hi, Nat.add_eq_left]
  rw [List.getElem?_eq_getElem hi, Option.getD_some]

/-! ### The end of a latched read (R172) -/

theorem closeResultLatch_eq (s : State) : closeResultLatch s = { s with
    pane := { s.pane with resultLatch := none, flags := s.pane.flags &&& 0x1FE#9 } } := by
  have hmask : ~~~ Event.resultReady.bit = 0x1FE#9 := by decide
  rw [closeResultLatch, clearEventMask, hmask]

theorem closeCommitLatch_eq (s : State) : closeCommitLatch s = { s with
    pane := { s.pane with commitLatch := none, flags := s.pane.flags &&& 0x1FD#9 } } := by
  have hmask : ~~~ Event.commitReady.bit = 0x1FD#9 := by decide
  rw [closeCommitLatch, clearEventMask, hmask]

/-! ### The rows -/

theorem exec_resultLatchOpen : exec (.resultLatchOpen mem) s = .next (hostPaneRead 10 mem openResultLatch s) := rfl

theorem exec_resultLastWordRead :
    exec (.resultLastWordRead mem) s = .next (hostPaneRead 17 mem closeResultLatch s) := rfl

theorem exec_commitLatchOpen : exec (.commitLatchOpen mem) s = .next (hostPaneRead 18 mem openCommitLatch s) := rfl

theorem exec_commitLastWordRead :
    exec (.commitLastWordRead mem) s = .next (hostPaneRead 21 mem closeCommitLatch s) := rfl

end PaneReads

/-! ### The statement -/

/-- Settles O27: each row is a HOST read of the first or the last word of its record, answered or forwarded as a whole. -/
theorem resultAndCommitLatches : Obligations.ResultAndCommitLatches := by
  intro mem s hs
  refine ⟨fun hobs => ⟨?resultOpen, ?resultLast, ?commitOpen, ?commitLast⟩, fun hn => ?forwarded⟩
  case resultOpen =>
    have hword : some (hostPaneWord s 10) = s.se.result.words[0]? := some_hostPaneWord_result (i := 0) s (by decide)
    rw [exec_resultLatchOpen, hostPaneRead_of_observes hs hobs, ← hword]
    rfl
  case resultLast =>
    have hword : some (hostPaneWord s 17) = (s.pane.resultLatch.getD s.se.result).words[7]? :=
      some_hostPaneWord_result (i := 7) s (by decide)
    rw [exec_resultLastWordRead, hostPaneRead_of_observes hs hobs, closeResultLatch_eq, ← hword]
    rfl
  case commitOpen =>
    have hword : some (hostPaneWord s 18) = s.band.commit.words[0]? := some_hostPaneWord_commit (i := 0) s (by decide)
    rw [exec_commitLatchOpen, hostPaneRead_of_observes hs hobs, ← hword]
    rfl
  case commitLast =>
    have hword : some (hostPaneWord s 21) = (s.pane.commitLatch.getD s.band.commit).words[3]? :=
      some_hostPaneWord_commit (i := 3) s (by decide)
    rw [exec_commitLastWordRead, hostPaneRead_of_observes hs hobs, closeCommitLatch_eq, ← hword]
    rfl
  case forwarded =>
    simp only [exec_resultLatchOpen, exec_resultLastWordRead, exec_commitLatchOpen, exec_commitLastWordRead,
      hostPaneRead_of_not_observes hs hn]
    exact ⟨rfl, rfl, rfl, rfl⟩

end Sys2Proof.Machine

/-! PROOFS. The fetch watches (chapter 12): what a match of each watch does, a STROKE read in ACTIVE and outside it, and the
statement on the watches. -/

namespace Sys2Proof.Machine

section Watches

variable {s : State} {a : Addr} {mem : Word}

/-! ### The comparison (R186) -/

theorem hits_eq_decide (w : Watch) (a : Addr) : w.hits a = decide (w.on = true ∧ w.addr = a) := by
  rw [Watch.hits, Bool.decide_and, Bool.decide_eq_true]
  rfl

theorem freezeHits_eq (a : Addr) (s : State) : freezeHits a s =
    (s.flt.watches.e0.hits a && decide (s.flt.watches.e0.action = .freeze)
      || s.flt.watches.e1.hits a && decide (s.flt.watches.e1.action = .freeze)) := rfl

/-! ### The matches (R186, R187) -/

/-- Watch 0's flag is WATCH 0, and its LOCATE writes locate record 0. -/
theorem matchWatch0_eq (a : Addr) (s : State) : matchWatch0 a s = { s with
    pane := { s.pane with flags := s.pane.flags ||| if s.flt.watches.e0.hits a then 0x004#9 else 0 }
    flt := { s.flt with locates := { s.flt.locates with
      e0 := if s.flt.watches.e0.hits a = true ∧ s.flt.watches.e0.action = .locate then locateAnswer s.trk
        else s.flt.locates.e0 } } } := by
  cases hhit : s.flt.watches.e0.hits a with
  | true => simp only [matchWatch0, hhit, locateAfter, true_and]; rfl
  | false => simp [matchWatch0, hhit]

/-- Watch 1's flag is WATCH 1, and its LOCATE writes locate record 1. -/
theorem matchWatch1_eq (a : Addr) (s : State) : matchWatch1 a s = { s with
    pane := { s.pane with flags := s.pane.flags ||| if s.flt.watches.e1.hits a then 0x008#9 else 0 }
    flt := { s.flt with locates := { s.flt.locates with
      e1 := if s.flt.watches.e1.hits a = true ∧ s.flt.watches.e1.action = .locate then locateAnswer s.trk
        else s.flt.locates.e1 } } } := by
  cases hhit : s.flt.watches.e1.hits a with
  | true => simp only [matchWatch1, hhit, locateAfter, true_and]; rfl
  | false => simp [matchWatch1, hhit]

/-- Neither match changes what the other is compared with, so both stand side by side, and the freeze after them. -/
theorem matchWatches_eq (a : Addr) (s : State) : matchWatches a s = { s with
    pane := { s.pane with flags := s.pane.flags ||| (if s.flt.watches.e0.hits a then 0x004#9 else 0)
      ||| (if s.flt.watches.e1.hits a then 0x008#9 else 0) }
    pat := { s.pat with frozen := s.pat.frozen || freezeHits a s }
    flt := { s.flt with locates := ⟨
      if s.flt.watches.e0.hits a = true ∧ s.flt.watches.e0.action = .locate then locateAnswer s.trk
        else s.flt.locates.e0,
      if s.flt.watches.e1.hits a = true ∧ s.flt.watches.e1.action = .locate then locateAnswer s.trk
        else s.flt.locates.e1⟩ } } := by
  have hkeep : freezeHits a (matchWatch1 a (matchWatch0 a s)) = freezeHits a s := by simp [freezeHits]
  rw [matchWatches, hkeep, matchWatch1_eq, matchWatch0_eq]
  cases freezeHits a s with
  | true => rw [Bool.or_true]; rfl
  | false => rw [Bool.or_false]; rfl

/-! ### The read up to the watches (R149, R150) -/

/-- A freeze taken early is one that the watches take on this read anyway (log 9). -/
theorem chooseFreeze_frozen_or_freezeHits (a : Addr) (s : State) :
    ((chooseFreeze a s).pat.frozen || freezeHits a s) = (s.pat.frozen || freezeHits a s) := by
  cases hfreeze : freezeHits a s with
  | true => rw [Bool.or_true, Bool.or_true]
  | false => rw [chooseFreeze, freezeMeets, hfreeze]; rfl

theorem exec_strokeRead_of_active (hop : s.port.op = .active) : exec (.strokeRead a mem) s =
    .next (matchWatches a (copyToTracker a (strokeAnswer a mem (chooseFreeze a s)))) := by
  change execStrokeRead a mem s = _
  rw [execStrokeRead, hop]

/-- Outside ACTIVE a STROKE read is answered or forwarded, and copied to nobody. -/
theorem exec_strokeRead_of_not_active (hop : s.port.op ≠ .active) :
    ∃ d u, exec (.strokeRead a mem) s = .next (setBus d u s) := by
  obtain ⟨d, u, hanswer⟩ := answerOrForward_frame a mem s
  change ∃ d u, execStrokeRead a mem s = .next (setBus d u s)
  rw [execStrokeRead]
  cases hcase : s.port.op with
  | active => exact absurd hcase hop
  | disabled | transparent => exact ⟨some (.read a), some mem, rfl⟩
  | passive | bypass => exact ⟨d, u, congrArg _ hanswer⟩

end Watches

/-! ### The statement -/

/-- Settles O26: in ACTIVE the answer and the tracker leave what the watches read and write, but for a freeze that the watches
take anyway; outside it only the bus changes. -/
theorem watchesMatch : Obligations.WatchesMatch := by
  intro a mem s h0 h1 hh0 hh1
  rw [← hits_eq_decide] at hh0 hh1
  subst hh0 hh1
  by_cases hop : s.port.op = .active
  case neg =>
    obtain ⟨d, u, hexec⟩ := exec_strokeRead_of_not_active (a := a) (mem := mem) hop
    exact ⟨_, hexec, fun _ => ⟨rfl, rfl, rfl⟩, fun hactive => absurd hactive hop⟩
  case pos =>
    refine ⟨_, exec_strokeRead_of_active hop, fun hn => absurd hop hn, fun _ => ?_⟩
    generalize hr : copyToTracker a (strokeAnswer a mem (chooseFreeze a s)) = r
    have hpane : r.pane = s.pane := by simp [← hr]
    have hwatches : r.flt.watches = s.flt.watches := by simp [← hr]
    have hlocates : r.flt.locates = s.flt.locates := by simp [← hr]
    have hfreeze : freezeHits a r = freezeHits a s := by rw [freezeHits, hwatches, freezeHits]
    have hfrozen : (r.pat.frozen || freezeHits a r) = (s.pat.frozen || freezeHits a s) := by
      rw [hfreeze, ← chooseFreeze_frozen_or_freezeHits, ← hr]
      simp
    rw [matchWatches_eq]
    dsimp only
    rw [hpane, hfrozen, hwatches, hlocates, freezeHits_eq, Bool.or_assoc]
    exact ⟨rfl, rfl, rfl, rfl, by simp [← hr]⟩

end Sys2Proof.Machine

/-! PROOFS. Regions and their placement (chapter 9): the tests on addresses as the statements write them, the map that CONFIGURE
forms, and the statement on CONFIGURE. -/

namespace Sys2Proof.Machine

/-! ### Runs of addresses -/

theorem overlaps_iff {a la b lb : Nat} (ha : 0 < la) (hb : 0 < lb) :
    overlaps a la b lb = true ↔ ∃ x, (a ≤ x ∧ x < a + la) ∧ (b ≤ x ∧ x < b + lb) := by
  unfold overlaps
  rw [Bool.and_eq_true, decide_eq_true_iff, decide_eq_true_iff]
  constructor
  · rintro ⟨h, h'⟩
    exact ⟨max a b, by omega, by omega⟩
  · rintro ⟨x, hx, hx'⟩
    omega

theorem lies_iff {x a la : Nat} : lies x a la = true ↔ a ≤ x ∧ x < a + la := by
  unfold lies
  rw [Bool.and_eq_true, decide_eq_true_iff, decide_eq_true_iff]

/-! ### The tests of R154 and R157 -/

section Placement

variable {m : RegionMap} {strap : BitVec 6}

theorem RegionMap.Formed.lengths (h : m.Formed) : 0 < m.windowLen ∧ 0 < 4 * m.records := by
  obtain ⟨hwindow, -, -, hrecords, -⟩ := h
  omega

theorem hitsStrap_iff (h : m.Formed) : m.hitsStrap strap = true ↔ m.Meets strap := by
  obtain ⟨hwindow, hrecords⟩ := h.lengths
  unfold RegionMap.hitsStrap strapBase
  by_cases hs : strap = 63#6
  · simp [hs, RegionMap.Meets, InStrapBlock]
  · simp only [if_neg hs, Bool.or_eq_true, overlaps_iff hwindow (show 0 < 192 by decide),
      overlaps_iff hrecords (show 0 < 192 by decide), lies_iff, RegionMap.Meets, InStrapBlock, RegionMap.InWindow,
      RegionMap.InMailbox]
    constructor
    · rintro ((⟨a, hw, hb⟩ | ⟨a, hm, hb⟩) | hl)
      · exact ⟨a, ⟨hs, hb⟩, .inl hw⟩
      · exact ⟨a, ⟨hs, hb⟩, .inr (.inl hm)⟩
      · exact ⟨_, ⟨hs, hl⟩, .inr (.inr rfl)⟩
    · rintro ⟨a, ⟨-, hb⟩, hw | hm | rfl⟩
      · exact .inl (.inl ⟨a, hw, hb⟩)
      · exact .inl (.inr ⟨a, hm, hb⟩)
      · exact .inr hb

theorem placeable_iff (h : m.Formed) : m.placeable strap = true ↔ m.Fits strap := by
  obtain ⟨hwindow, hrecords⟩ := h.lengths
  have hstrap := hitsStrap_iff (strap := strap) h
  have hapart := overlaps_iff (a := m.windowBase.toNat) (b := m.mailboxBase.toNat) hwindow hrecords
  unfold RegionMap.placeable
  simp only [Bool.and_eq_true, Bool.not_eq_true', ← Bool.not_eq_true, decide_eq_true_iff, hstrap, hapart, lies_iff]
  constructor
  · rintro ⟨⟨⟨⟨⟨hs, ha⟩, hlw⟩, hlm⟩, hw⟩, hm⟩
    exact ⟨hs, fun a ⟨hwa, hma⟩ => ha ⟨a, hwa, hma⟩, ⟨hlw, hlm⟩, hw, hm⟩
  · rintro ⟨hs, ha, ⟨hlw, hlm⟩, hw, hm⟩
    exact ⟨⟨⟨⟨⟨hs, fun ⟨a, hwa, hma⟩ => ha a ⟨hwa, hma⟩⟩, hlw⟩, hlm⟩, hw⟩, hm⟩

/-- A map that fits some strap block still fits once it does not meet the new one. -/
theorem RegionMap.Fits.of_not_meets {old : BitVec 6} (h : m.Fits old) (hn : ¬ m.Meets strap) : m.Fits strap :=
  { h with strapFree := hn }

theorem not_meets_63 : ¬ m.Meets 63#6 := by
  rintro ⟨a, ⟨hs, -⟩, -⟩
  exact hs rfl

end Placement

/-! ### The map of a CONFIGURE (R153) -/

theorem mapOf_formed (e : DirEntry) : (mapOf e).Formed := by
  have hbase : ∀ n : Nat, (BitVec.ofNat 20 (n * 16)).toNat % 16 = 0 := by
    intro n
    rw [BitVec.toNat_ofNat]
    omega
  have hlen : 32 ≤ (mapOf e).windowLen ∧ (mapOf e).windowLen ≤ 1024 ∧ (mapOf e).windowLen % 16 = 0 := by
    simp only [mapOf, clampNat]
    split_ifs <;> omega
  have hrecords : 4 ≤ (mapOf e).records ∧ (mapOf e).records ≤ 32 := by
    simp only [mapOf, clampNat]
    omega
  exact ⟨hlen.1, hlen.2.1, hlen.2.2, hrecords.1, hrecords.2, hbase _, hbase _, hbase _⟩

/-! ### The statement -/

theorem applyConfigure_of_fits {e : DirEntry} {s : State} (h : (mapOf e).Fits s.port.strap) :
    applyConfigure e s = (configureWith (mapOf e) s, none) :=
  if_pos ((placeable_iff (mapOf_formed e)).mpr h)

theorem applyConfigure_of_not_fits {e : DirEntry} {s : State} (h : ¬ (mapOf e).Fits s.port.strap) :
    applyConfigure e s = (s, some .badRegion) :=
  if_neg (mt (placeable_iff (mapOf_formed e)).mp h)

/-- Settles O10: the map of the five fields is the one the row forms, and its two outcomes are the two of R154. -/
theorem configureRow : Obligations.ConfigureRow := by
  intro e rest s m h hm
  obtain rfl : m = mapOf e := by
    rw [hm, mapOf, Nat.mul_comm (e.argU 0), Nat.mul_comm (e.argU 1), Nat.mul_comm (e.argU 3)]
    rfl
  have hb : e.dirKind.searchBound = false ∨ s.se.search = none := .inl (by rw [DirEntry.dirKind, h.2.1]; rfl)
  exact ⟨fun hfits => h.exec_accepted hb rfl (applyConfigure_of_fits hfits) (by simp),
    fun hn => h.exec_refused hb rfl (applyConfigure_of_not_fits hn)⟩

end Sys2Proof.Machine

/-! PROOFS. Resets (chapter 9): what each reset and the held pin leave of every block, and the statements on them. -/

namespace Sys2Proof.Machine

variable {s : State}

/-! ### The trigger by its three cases (R116, R117) -/

theorem trigger_of_quiet (hop : s.port.op = .active) (hpass : s.comp.pass = none) :
    trigger s = { s with comp := { s.comp with pass := some (passInputs s) } } := by
  simp only [trigger, hop, hpass, if_true]

theorem trigger_of_composing (hop : s.port.op = .active) (hpass : s.comp.pass ≠ none) :
    trigger s = { s with comp := { s.comp with again := true } } := by
  obtain ⟨i, hi⟩ := Option.ne_none_iff_exists'.mp hpass
  simp only [trigger, hop, hi, if_true]

theorem trigger_of_not_active (hop : s.port.op ≠ .active) : trigger s = s := if_neg hop

/-! ### Entering an operating state (R147, R156, R157) -/

/-- R156: ACTIVE with a configuration held, PASSIVE without. -/
theorem enterConfigured_cases (s : State) :
    (s.port.config = none ∧ enterConfigured s = setOp .passive s)
    ∨ ∃ m, s.port.config = some m ∧ enterConfigured s =
      trigger (setTrk { s.trk with state := .waiting, expected := m.listBase } (setOp .active s)) := by
  unfold enterConfigured enterActive
  split
  · next h => exact .inl ⟨h, rfl⟩
  · next m h => exact .inr ⟨m, h, rfl⟩

/-- R147, R157: DISABLED with strap value 63. -/
theorem enterByStrap_cases (s : State) :
    (s.port.strap = 63#6 ∧ enterByStrap s = setOp .disabled s)
    ∨ (s.port.strap ≠ 63#6 ∧ enterByStrap s = enterConfigured s) := by
  unfold enterByStrap
  split
  · next h => exact .inl ⟨h, rfl⟩
  · next h => exact .inr ⟨h, rfl⟩

@[simp] theorem enterConfigured_frame :
    (enterConfigured s).port.strap = s.port.strap ∧ (enterConfigured s).port.config = s.port.config ∧
    (enterConfigured s).port.cause = s.port.cause ∧ (enterConfigured s).bus = s.bus ∧ (enterConfigured s).hv = s.hv ∧
    (enterConfigured s).se = s.se ∧ (enterConfigured s).cu = s.cu ∧ (enterConfigured s).band = s.band ∧
    (enterConfigured s).pat = s.pat ∧ (enterConfigured s).dir = s.dir ∧ (enterConfigured s).pane = s.pane ∧
    (enterConfigured s).flt = s.flt ∧ (enterConfigured s).orderChoices = s.orderChoices ∧
    (enterConfigured s).pending = s.pending := by
  obtain ⟨-, h⟩ | ⟨m, -, h⟩ := enterConfigured_cases s
  all_goals
    rw [h]
    simp

@[simp] theorem enterConfigured_keeps :
    (enterConfigured s).comp.staged = s.comp.staged ∧ (enterConfigured s).comp.serving = s.comp.serving ∧
    (enterConfigured s).comp.entered = s.comp.entered ∧ (enterConfigured s).comp.style = s.comp.style := by
  obtain ⟨-, h⟩ | ⟨m, -, h⟩ := enterConfigured_cases s
  all_goals
    rw [h]
    simp

@[simp] theorem enterByStrap_frame :
    (enterByStrap s).port.strap = s.port.strap ∧ (enterByStrap s).port.config = s.port.config ∧
    (enterByStrap s).port.cause = s.port.cause ∧ (enterByStrap s).bus = s.bus ∧ (enterByStrap s).hv = s.hv ∧
    (enterByStrap s).se = s.se ∧ (enterByStrap s).cu = s.cu ∧ (enterByStrap s).band = s.band ∧
    (enterByStrap s).pat = s.pat ∧ (enterByStrap s).dir = s.dir ∧ (enterByStrap s).pane = s.pane ∧
    (enterByStrap s).flt = s.flt ∧ (enterByStrap s).orderChoices = s.orderChoices ∧
    (enterByStrap s).pending = s.pending := by
  obtain ⟨-, h⟩ | ⟨-, h⟩ := enterByStrap_cases s
  all_goals
    rw [h]
    simp

@[simp] theorem enterByStrap_keeps :
    (enterByStrap s).comp.staged = s.comp.staged ∧ (enterByStrap s).comp.serving = s.comp.serving ∧
    (enterByStrap s).comp.entered = s.comp.entered ∧ (enterByStrap s).comp.style = s.comp.style := by
  obtain ⟨-, h⟩ | ⟨-, h⟩ := enterByStrap_cases s
  all_goals
    rw [h]
    simp

/-- Entry to ACTIVE from a state with no pass in progress starts one (R116, R117). -/
theorem enterConfigured_of_config {m : RegionMap} (hm : s.port.config = some m) (hpass : s.comp.pass = none) :
    (enterConfigured s).port = { s.port with op := .active } ∧ (enterConfigured s).comp.again = s.comp.again
    ∧ (enterConfigured s).trk = { s.trk with state := .waiting, expected := m.listBase }
    ∧ (enterConfigured s).comp.pass = some (passInputs (enterConfigured s)) := by
  obtain ⟨hnone, -⟩ | ⟨m', hm', h⟩ := enterConfigured_cases s
  · rw [hm] at hnone
    cases hnone
  · obtain rfl : m = m' := Option.some.inj (hm.symm.trans hm')
    rw [h, trigger_of_quiet (s := setTrk _ (setOp .active s)) rfl hpass]
    exact ⟨rfl, rfl, rfl, rfl⟩

theorem enterConfigured_of_none (hm : s.port.config = none) : enterConfigured s = setOp .passive s := by
  obtain ⟨-, h⟩ | ⟨m, hm', -⟩ := enterConfigured_cases s
  · exact h
  · rw [hm] at hm'
    cases hm'

/-! ### The cold reset (R157) -/

theorem coldReset_eq (b : BitVec 6) (s : State) : coldReset b s = { State.reset with
    port := ⟨b, none, if b = 63#6 then .disabled else .passive, .power⟩
    orderChoices := s.orderChoices
    pending := s.pending } := by
  unfold coldReset enterByStrap
  split_ifs <;> rfl

/-- No raised fault waits after a cold reset, so that the pin held with it records none. -/
theorem assertPin_coldReset (b : BitVec 6) (s : State) : assertPin (coldReset b s) = { State.reset with
    port := ⟨b, none, .transparent, .power⟩
    orderChoices := s.orderChoices
    pending := s.pending } := by
  rw [coldReset_eq]
  rfl

/-- Settles O5. -/
theorem powerOnIsColdReset : Obligations.PowerOnIsColdReset := fun b s =>
  ⟨congrArg Host.Outcome.next (coldReset_eq b s), congrArg Host.Outcome.next (assertPin_coldReset b s)⟩

/-- Settles O4: each value stands in the reset state itself. -/
theorem coldResetValues : Obligations.ColdResetValues := by
  refine ⟨rfl, rfl, rfl, rfl, rfl, rfl, ?banks, rfl, rfl, rfl, rfl, rfl, rfl, rfl, rfl, rfl, rfl, rfl, rfl, rfl, rfl,
    rfl, rfl, rfl, rfl, rfl⟩
  case banks =>
    intro i
    cases i <;> exact ⟨rfl, rfl⟩

/-! ### The warm resets (R152, R156, R157) -/

/-- What clears the working state is what the statements on the resets call cleared, wherever the state is entered next. -/
theorem cleared_clearWorking (s : State) : Cleared s (clearWorking s) where
  bus := rfl
  harvest := rfl
  search := rfl
  cursor := rfl
  band := rfl
  lists := ⟨rfl, rfl, rfl, rfl, rfl⟩
  pattern := rfl
  shadow := ⟨rfl, rfl, rfl⟩
  pane := ⟨rfl, rfl, rfl, rfl, rfl⟩
  faults := ⟨rfl, rfl, rfl, rfl⟩
  model := ⟨rfl, rfl⟩

theorem enterConfigured_again (hpass : s.comp.pass = none) : (enterConfigured s).comp.again = s.comp.again := by
  cases hm : s.port.config with
  | none => rw [enterConfigured_of_none hm]; rfl
  | some m => exact (enterConfigured_of_config hm hpass).2.1

theorem Cleared.enterConfigured {u : State} (h : Cleared s u) (hpass : u.comp.pass = none) :
    Cleared s (enterConfigured u) where
  bus := by simpa using h.bus
  harvest := by simpa using h.harvest
  search := by simpa using h.search
  cursor := by simpa using h.cursor
  band := by simpa using h.band
  lists := by simpa [enterConfigured_again hpass] using h.lists
  pattern := by simpa using h.pattern
  shadow := by simpa using h.shadow
  pane := by simpa using h.pane
  faults := by simpa using h.faults
  model := by simpa using h.model

theorem Cleared.setOp {u : State} (h : Cleared s u) (op : OpState) : Cleared s (setOp op u) := { h with }

/-- Only the operating state follows what clears the working state. -/
theorem Cleared.port {u : State} (h : Cleared s u) (p : Port) : Cleared s { u with port := p } := { h with }

theorem recordAll_keeps (s : State) :
    (recordAll s).pane = { s.pane with flags := (recordAll s).pane.flags }
    ∧ (recordAll s).flt.responses = s.flt.responses ∧ (recordAll s).flt.watches = s.flt.watches
    ∧ (recordAll s).flt.stopCause = s.flt.stopCause ∧ (recordAll s).flt.raised = [] := by
  have hfold : ∀ (l : List Raised) (u : State),
      (l.foldl (fun t f => recordFault f t) u).pane = { u.pane with flags := (l.foldl (fun t f => recordFault f t) u).pane.flags }
      ∧ (l.foldl (fun t f => recordFault f t) u).flt.responses = u.flt.responses
      ∧ (l.foldl (fun t f => recordFault f t) u).flt.watches = u.flt.watches
      ∧ (l.foldl (fun t f => recordFault f t) u).flt.stopCause = u.flt.stopCause := by
    intro l
    induction l with
    | nil => exact fun u => ⟨rfl, rfl, rfl, rfl⟩
    | cons f rest ih =>
      intro u
      obtain ⟨hpane, hresponses, hwatches, hstop⟩ := ih (recordFault f u)
      refine ⟨hpane.trans ?_, hresponses.trans ?_, hwatches.trans ?_, hstop.trans ?_⟩ <;> rfl
  obtain ⟨hpane, hresponses, hwatches, hstop⟩ := hfold s.flt.raised s
  exact ⟨hpane, hresponses, hwatches, hstop, rfl⟩

theorem recordAll_of_none (h : s.flt.raised = []) : recordAll s = s := by
  have hflt : { s.flt with raised := [] } = s.flt := by rw [← h]
  rw [recordAll, h]
  exact congrArg (fun f => { s with flt := f }) hflt

/-- Faults recorded before the working state is cleared leave no trace in what the statements call cleared. -/
theorem cleared_recordAll (s : State) : Cleared s (clearWorking (recordAll s)) := by
  have h := cleared_clearWorking (recordAll s)
  obtain ⟨hpane, hresponses, hwatches, hstop, -⟩ := recordAll_keeps s
  have hmask : (recordAll s).pane.mask = s.pane.mask := by rw [hpane]
  exact
  { bus := by simpa using h.bus
    harvest := h.harvest
    search := by simpa using h.search
    cursor := by simpa using h.cursor
    band := by simpa using h.band
    lists := by simpa using h.lists
    pattern := by simpa using h.pattern
    shadow := by simpa using h.shadow
    pane := by simpa [hmask] using h.pane
    faults := by simpa [hresponses, hwatches, hstop] using h.faults
    model := by simpa using h.model }

/-- Settles O6: the pin records the waiting faults, clears the working state and holds the part. -/
theorem resetPinAsserted : Obligations.ResetPinAsserted := by
  intro s
  refine ⟨assertPin s, rfl, ?_, rfl, (cleared_recordAll s).setOp _, rfl, rfl, rfl, fun hraised => ?_⟩
  · have hport : (recordAll s).port = s.port := by simp
    rw [← hport]
    rfl
  · rw [assertPin, recordAll_of_none hraised]
    rfl

/-! ### The release of the pin -/

theorem checkConfig_of_meets {m : RegionMap} {b : BitVec 6} (h : m.Formed) (hm : m.Meets b) :
    checkConfig b (some m) = none := if_pos ((hitsStrap_iff h).mpr hm)

theorem checkConfig_of_free {m : RegionMap} {b : BitVec 6} (h : m.Formed) (hm : ¬ m.Meets b) :
    checkConfig b (some m) = some m := if_neg (mt (hitsStrap_iff h).mp hm)

/-- The state in which the release of the pin enters its operating state. -/
def releasedPin (b : BitVec 6) (s : State) : State :=
  { clearWorking s with port := { s.port with strap := b, config := checkConfig b s.port.config, cause := .pin } }

theorem warmReset_eq (b : BitVec 6) (s : State) : warmReset b s = enterByStrap (releasedPin b s) := rfl

theorem cleared_warmReset (b : BitVec 6) (s : State) : Cleared s (warmReset b s) := by
  have hreleased : Cleared s (releasedPin b s) := (cleared_clearWorking s).port _
  rw [warmReset_eq]
  obtain ⟨-, h⟩ | ⟨-, h⟩ := enterByStrap_cases (releasedPin b s)
  · exact h ▸ hreleased.setOp _
  · exact h ▸ hreleased.enterConfigured rfl

theorem warmReset_frame (b : BitVec 6) (s : State) :
    (warmReset b s).pane = s.pane.cleared ∧ (warmReset b s).dir = s.dir.cleared
    ∧ (warmReset b s).flt = { s.flt with locates := ⟨.none, .none⟩ } := by
  simp [warmReset_eq, releasedPin, clearWorking]

theorem warmReset_of_63 (s : State) : warmReset 63#6 s = setOp .disabled (releasedPin 63#6 s) := by
  rw [warmReset_eq, enterByStrap]
  exact if_pos rfl

theorem warmReset_of_ne {b : BitVec 6} (hb : b ≠ 63#6) (s : State) :
    warmReset b s = enterConfigured (releasedPin b s) := if_neg hb

/-- Settles O7: the state entered follows from the strap value and from the check of the configuration that was held. -/
theorem resetPinReleased : Obligations.ResetPinReleased := by
  intro b s hop hformed
  have hexec : exec (.resetPinReleased b) s = .next (warmReset b s) := congrArg Host.Outcome.next (if_pos hop)
  obtain ⟨hpane, hdir, hflt⟩ := warmReset_frame b s
  refine ⟨_, hexec, cleared_warmReset b s, by rw [hpane]; rfl, by rw [hdir]; rfl, hflt, fun hb => ?disabled,
    fun hb hgone => ?passive, fun hb m hm hfree => ?active⟩
  case disabled =>
    subst hb
    have hkept : checkConfig 63#6 s.port.config = s.port.config := by
      cases hm : s.port.config with
      | none => rfl
      | some m => exact checkConfig_of_free (hformed m hm) not_meets_63
    rw [warmReset_of_63]
    exact ⟨congrArg (Port.mk 63#6 · .disabled .pin) hkept, rfl, rfl⟩
  case passive =>
    have hnone : checkConfig b s.port.config = none := by
      obtain hm | ⟨m, hm, hmeets⟩ := hgone
      · rw [hm]; rfl
      · rw [hm, checkConfig_of_meets (hformed m hm) hmeets]
    rw [warmReset_of_ne hb, enterConfigured_of_none hnone]
    exact ⟨congrArg (Port.mk b · .passive .pin) hnone, rfl, rfl⟩
  case active =>
    have hsome : checkConfig b s.port.config = some m := by rw [hm, checkConfig_of_free (hformed m hm) hfree]
    obtain ⟨hport, -, htrk, hpass⟩ := enterConfigured_of_config (s := releasedPin b s) hsome rfl
    rw [warmReset_of_ne hb]
    refine ⟨?_, by rw [htrk]; rfl, hpass⟩
    rw [hport]
    exact congrArg (Port.mk b · .active .pin) hsome

/-! ### RESTART (R156) -/

/-- The state in which RESTART enters its operating state. -/
def restarted (s : State) : State := { clearWorking s with port := { s.port with cause := .restart } }

theorem restartReset_eq (s : State) : restartReset s = enterConfigured (restarted s) := rfl

theorem cleared_restartReset (s : State) : Cleared s (restartReset s) :=
  ((cleared_clearWorking s).port _).enterConfigured rfl

theorem restartReset_pane_dir_flt (s : State) :
    (restartReset s).pane = s.pane.cleared ∧ (restartReset s).dir = s.dir.cleared
    ∧ (restartReset s).flt = { s.flt with locates := ⟨.none, .none⟩ } := by
  simp [restartReset_eq, restarted, clearWorking]

/-- RESTART reports itself in the state that it leaves, and drains a queue that it has emptied (R168). -/
theorem executeEntry_restart (e : DirEntry) (s : State) : executeEntry applyRestart e s = { restartReset s with
    dir := { (restartReset s).dir with progress := ⟨1, e.slot, e.kind, e.tag, none⟩ }
    pane := { (restartReset s).pane with flags := 0x100#9 } } := by
  obtain ⟨hpane, hdir, -⟩ := restartReset_pane_dir_flt s
  have hcount : s.dir.cleared.progress.count + 1 = 1 := rfl
  have hflags : s.pane.cleared.flags ||| Event.drained.bit = 0x100#9 := by
    change 0#9 ||| Event.drained.bit = 0x100#9
    decide
  simp only [executeEntry, applyRestart, noteRefusal, reportOutcome, leaveQueue, hdir]
  rw [if_pos (by rfl), setEvent]
  simp only [hpane, hcount, hflags]
  rfl

/-- Settles O8: what RESTART clears, the state it enters by the configuration held, and its own report. -/
theorem restartResets : Obligations.RestartResets := by
  intro e rest s h
  have hb : e.dirKind.searchBound = false ∨ s.se.search = none := .inl (by rw [DirEntry.dirKind, h.2.1]; rfl)
  have hexec : exec .restart s = .next (executeEntry applyRestart e s) :=
    congrArg Host.Outcome.next (h.runDirective_eq hb)
  have hcleared := cleared_restartReset s
  obtain ⟨hpane, hdir, hflt⟩ := restartReset_pane_dir_flt s
  rw [executeEntry_restart] at hexec
  refine ⟨_, hexec, { hcleared with }, ?port, fun m hm => ?held, fun hm => ?none, rfl, rfl, hflt⟩
  case port =>
    cases hm : s.port.config with
    | none =>
      rw [restartReset_eq, enterConfigured_of_none (s := restarted s) hm]
      rfl
    | some m =>
      rw [restartReset_eq, (enterConfigured_of_config (s := restarted s) hm rfl).1]
      rfl
  case held =>
    obtain ⟨-, -, htrk, hpass⟩ := enterConfigured_of_config (s := restarted s) hm rfl
    exact ⟨by rw [restartReset_eq, htrk]; rfl, hpass⟩
  case none =>
    rw [restartReset_eq, enterConfigured_of_none (s := restarted s) hm]
    exact ⟨rfl, rfl⟩

end Sys2Proof.Machine

/-! PROOFS. Invariants of the part: what it takes for a property to be kept by every command, with the execution of directives,
the taking of faults, samples and completions put together once for all the invariants of Safety. -/

namespace Sys2Proof.Machine

variable {P Q : State → Prop} {s t : State}

/-! ### Rows and reads by their parts -/

/-- The directive kind that a row executes. CLEAR EVENTS is left out: its execution ends with a clear of its own (R176). -/
def rowKind : Instr → Option DirKind
  | .configure => some .configure
  | .restart => some .restart
  | .resume => some .resume
  | .setResponses => some .setResponses
  | .clearFaults => some .clearFaults
  | .setWatch => some .setWatch
  | .freeze => some .freeze
  | .thaw => some .thaw
  | .setBlink => some .setBlink
  | .setInput => some .setInput
  | .setCursor => some .setCursor
  | .setButtons => some .setButtons
  | .setSnap => some .setSnap
  | .setGrid => some .setGrid
  | .loadDirections => some .loadDirections
  | .continueDirections => some .continueDirections
  | .setConstraint => some .setConstraint
  | .setAnchor => some .setAnchor
  | .clearAnchor => some .clearAnchor
  | .trailAppend => some .trailAppend
  | .trailDrop => some .trailDrop
  | .trailClear => some .trailClear
  | .setBand => some .setBand
  | .setStyle => some .setStyle
  | .setNotify => some .setNotify
  | .setPeek => some .setPeek
  | .unknownKind => some .unknown
  | _ => none

theorem exec_of_rowKind {c : Instr} {k : DirKind} (h : rowKind c = some k) (s : State) :
    exec c s = .next (runDirective k (effectOf k) s) := by
  cases c <;> cases h <;> rfl

theorem observes_of_mayExecute {e : DirEntry} (h : mayExecute e s = true) : Observes s :=
  observesWrites_iff.mp (Bool.and_eq_true_iff.mp h).1

/-- A STROKE read in ACTIVE, part by part (R150). -/
def readActive (a : Addr) (mem : Word) (s : State) : State :=
  matchWatches a (copyToTracker a (strokeAnswer a mem (chooseFreeze a s)))

/-! ### Directives and faults (R163, R164, R178, R180) -/

/-- The property is kept by each part of the execution of a directive, of the taking of a fault and of a stop. -/
structure KeptByExecution (Q : State → Prop) : Prop where
  effect : ∀ k e s, Q s → Q (effectOf k e s).1
  outcome : ∀ e r s, Q s → Q (leaveQueue (noteRefusal e r (reportOutcome e r s)))
  clear : ∀ m s, Q s → Q (clearEventMask m s)
  record : ∀ f rest s, Q s → Q (recordFault f { s with flt := { s.flt with raised := rest } })
  bypass : ∀ s, s.port.op = .active → Q s → Q (enterBypass s)
  owe : ∀ s, Q s → Q (oweStart s)

namespace KeptByExecution

variable (hQ : KeptByExecution Q)
include hQ

theorem executeEntry (k : DirKind) (e : DirEntry) (h : Q s) : Q (executeEntry (effectOf k) e s) :=
  hQ.outcome e _ _ (hQ.effect k e s h)

theorem executeHead (h : Q s) : Q (executeHead s) := by
  unfold Machine.executeHead
  split
  · exact h
  · exact hQ.executeEntry _ _ h

theorem stopPart (hop : s.port.op = .active) (h : Q s) : Q (stopPart s) := by
  obtain ⟨-, heq⟩ | ⟨-, heq⟩ := stopPart_cases s
  · exact heq ▸ hQ.bypass s hop h
  · exact heq ▸ hQ.executeHead (hQ.bypass s hop h)

theorem takeFault (h : Q s) : Q (takeFault s) := by
  obtain ⟨-, heq⟩ | ⟨f, rest, u, -, rfl, ⟨-, hop, heq⟩ | ⟨-, heq⟩⟩ := takeFault_cases s
  · exact heq.symm ▸ h
  · exact heq ▸ hQ.stopPart hop (hQ.record f rest s h)
  · exact heq ▸ hQ.record f rest s h

theorem takeFaults (n : Nat) (h : Q s) : Q (takeFaults n s) := by
  induction n generalizing s with
  | zero => exact h
  | succ n ih => exact ih (hQ.takeFault h)

/-- Step 8 of a completion (R58), from the state in which the engine is IDLE. -/
theorem finishCompletion (held : Bool) (before : Nat) (h : Q (endSearch s)) : Q (finishCompletion held before s) := by
  have hfaults : Q (if before < (endSearch s).flt.raised.length
      then Machine.takeFaults (endSearch s).flt.raised.length (endSearch s) else endSearch s) := by
    split
    · exact hQ.takeFaults _ h
    · exact h
  unfold Machine.finishCompletion
  refine hQ.owe _ ?_
  split
  · exact hQ.executeHead hfaults
  · exact hfaults

end KeptByExecution

/-! ### Samples (R84 to R92) -/

/-- The property is kept by each part of a mailbox write and of the cursor directives. -/
structure KeptByCursor (P : State → Prop) : Prop where
  capture : ∀ r b w s, P s → P (setCu (captureWord r b w s.cu) s)
  ring : ∀ m r s, s.port.config = some m → P s → P (ringCheck m.records r s)
  proximity : ∀ b s, P s → P (setProximity b s)
  move : ∀ p s, P s → P (moveCursor p s)
  prev : ∀ b s, P s → P (setPrev b s)
  motion : ∀ s, P s → P (fileMotion s)
  press : ∀ mask s, P s → P (filePress ⟨s.cu.pos, mask⟩ s)
  trigger : ∀ s, P s → P (trigger s)
  settings : ∀ source ox oy gx gy wheel map s, P s → P (setCu { s.cu with
    source := source, ox := ox, oy := oy, gx := gx, gy := gy, wheel := wheel, map := map } s)

namespace KeptByCursor

variable (hP : KeptByCursor P)
include hP

theorem fileSample (before : Pt) (mask : BitVec 4) (h : P s) : P (fileSample before mask s) := by
  have hpress : ∀ u, P u → P (if mask != 0 then filePress ⟨u.cu.pos, mask⟩ u else u) := by
    intro u hu
    split
    · exact hP.press mask u hu
    · exact hu
  unfold Machine.fileSample
  cases s.cu.pos != before with
  | true => exact hP.trigger _ (hpress _ (hP.motion s h))
  | false => exact hpress s h

theorem finishSample (before : Pt) (buttons : BitVec 4) (h : P s) : P (finishSample before buttons s) :=
  hP.fileSample _ _ (hP.prev _ _ h)

theorem acceptSample (words : Word × Word) (status : Word) (h : P s) : P (acceptSample words status s) := by
  unfold Machine.acceptSample
  split
  · split
    · exact hP.finishSample _ _ (hP.move _ _ (hP.proximity _ _ h))
    · exact hP.fileSample _ _ (hP.prev _ _ (hP.proximity _ _ h))
  · exact hP.finishSample _ _ (hP.proximity _ _ (hP.move _ _ h))
  · exact h
  · exact h

theorem mailboxWrite {m : RegionMap} (hm : s.port.config = some m) (r k : Nat) (w : Word) (h : P s) :
    P (mailboxWrite m.records r k w s) := by
  have hring := hP.ring m r s hm h
  unfold Machine.mailboxWrite
  split
  · exact hP.capture _ _ _ _ h
  · exact hP.capture _ _ _ _ h
  · split
    · unfold takeSample
      dsimp only
      split
      · exact hP.acceptSample _ _ hring
      · exact hring
    · exact h
  · exact h

theorem handMailbox (a : Addr) (w : Word) (h : P s) : P (handMailbox a w s) := by
  unfold Machine.handMailbox
  split
  · split
    · exact h
    · next m hm =>
      split
      · exact h
      · exact hP.mailboxWrite hm _ _ _ h
  · exact h

theorem filePresses (masks : List (BitVec 4)) (h : P s) :
    P (filePresses (masks.map fun b => ⟨s.cu.pos, b⟩) s) := by
  induction masks generalizing s with
  | nil => exact h
  | cons b rest ih =>
    have hnext := ih (hP.press b s h)
    rwa [show (filePress ⟨s.cu.pos, b⟩ s).cu = s.cu by simp] at hnext

/-- SET CURSOR files its presses at the position it has moved to (R96). -/
theorem applySetCursor (e : DirEntry) (h : P s) : P (applySetCursor e s).1 := by
  unfold Machine.applySetCursor
  split
  · have hmoved := hP.proximity true _ (hP.move ⟨e.argS 0, e.argS 1⟩ s h)
    generalize setProximity true (moveCursor ⟨e.argS 0, e.argS 1⟩ s) = u at hmoved
    have hend : ∀ v, P v → P (if v.cu.pos = s.cu.pos then v else Machine.trigger v) := by
      intro v hv
      split
      · exact hv
      · exact hP.trigger v hv
    refine hend _ ?_
    split
    · exact hP.motion u hmoved
    · have hall := hP.filePresses (([0, 1, 2, 3].filter fun b =>
        (BitVec.ofNat 4 (e.argU 2) &&& mappedButtons u.cu.map).getLsbD b).map (BitVec.twoPow 4)) hmoved
      rwa [List.map_map] at hall
  · exact h

theorem applySetInput (e : DirEntry) (h : P s) : P (applySetInput e s).1 := by
  unfold Machine.applySetInput
  dsimp only
  have hset := hP.settings (sourceOf (e.argU 0)) (e.argU 1) (e.argU 2) (clampNat 1 65535 (e.argU 3))
    (clampNat 1 65535 (e.argU 4)) (clampNat 1 16 (e.argU 5)) s.cu.map s h
  split
  · exact hset
  · exact hP.proximity _ _ (hP.prev _ _ hset)

theorem applySetButtons (e : DirEntry) (h : P s) : P (applySetButtons e s).1 :=
  hP.settings s.cu.source s.cu.ox s.cu.oy s.cu.gx s.cu.gy s.cu.wheel _ s h

end KeptByCursor

/-! ### Reads copied to the tracker (R1 to R15) -/

/-- A property that does not speak of the tracker is kept by each part of what the tracker makes of a read. -/
structure KeptByTracking (P : State → Prop) : Prop where
  raise : ∀ c d t s, P s → P (raise c d t s)
  item : ∀ it s, P s → P (queueItem it s)
  marker : ∀ it s, P s → P (queueMarker it s)
  track : ∀ k s, P s → P (setTrk k s)
  lose : ∀ st s, P s → P (restartTracker st s)
  pattern : ∀ s, P s → P (patternStep s)

namespace KeptByTracking

variable (hP : KeptByTracking P)
include hP

theorem loseTrack (c : FaultCode) (a : Addr) (h : P s) : P (loseTrack c a s) := by
  have hraised := hP.raise c a 0 s h
  refine hP.lose _ _ ?_
  unfold discardOpenFrame
  split
  · exact hP.marker _ _ hraised
  · exact hraised

theorem takeHead (l a : Addr) (w : Word) (h : P s) : P (takeHead l a w s) := by
  unfold Machine.takeHead
  split
  case h_1 | h_4 | h_5 | h_6 | h_9 => exact hP.track _ _ h
  case h_2 => exact hP.track _ _ h
  case h_3 =>
    unfold applyDraw
    refine hP.track _ _ ?_
    split
    · exact hP.item _ _ h
    · exact h
  case h_7 =>
    split
    · exact hP.track _ _ h
    · exact hP.loseTrack _ _ h
  case h_8 =>
    unfold applyReturn
    split
    · exact hP.loseTrack _ _ h
    · exact hP.track _ _ h
  case h_10 => exact hP.track _ _ (hP.marker _ _ h)
  case h_11 => exact hP.loseTrack _ _ h

theorem takeWord (l a : Addr) (w : Word) (h : P s) : P (takeWord l a w s) := by
  have hlast := hP.track { s.trk with lastWord := a } s h
  unfold Machine.takeWord
  dsimp only
  split
  · exact hP.takeHead l a w hlast
  · unfold applyCircle
    refine hP.track _ _ ?_
    split
    · exact hP.item _ _ hlast
    · exact hlast
  · exact hP.track _ _ hlast
  · exact hP.track _ _ hlast

theorem frameStart (l : Addr) (w : Word) (h : P s) : P (frameStart l w s) :=
  hP.takeWord _ _ _ (hP.track _ _ (hP.track _ _ (hP.marker _ _ (hP.pattern _ (hP.track _ _ h)))))

theorem trackRead (l a : Addr) (w : Word) (h : P s) : P (trackRead l a w s) := by
  unfold Machine.trackRead
  split
  · exact h
  · split
    · exact hP.frameStart _ _ h
    · exact h
  · split
    · exact hP.frameStart _ _ h
    · exact h
  · split
    · refine hP.frameStart _ _ ?_
      unfold abortFrame
      split
      · exact hP.marker _ _ (hP.raise _ _ _ _ h)
      · exact h
    · split
      · exact hP.loseTrack _ _ h
      · exact hP.takeWord _ _ _ (hP.track _ _ h)

theorem copyToTracker (a : Addr) (h : P s) : P (copyToTracker a s) := by
  unfold Machine.copyToTracker
  split
  · exact h
  · exact hP.trackRead _ _ _ h

end KeptByTracking

/-! ### Every command -/

/-- P is kept by the parts of every command but POWER_ON and the release of the pin. Q is what P amounts to where directives
execute, samples and faults are taken. -/
structure KeptByRuns (P Q : State → Prop) : Prop where
  execution : KeptByExecution Q
  enter : ∀ s, P s → Observes s ∨ s.se.search ≠ none ∨ s.flt.raised ≠ [] → Q s
  leave : ∀ s, Q s → P s
  cursor : KeptByCursor Q
  bus : ∀ d u s, P s → P (setBus d u s)
  pin : ∀ s, P s → P (assertPin s)
  read : ∀ a mem s, s.port.op = .active → P s → P (readActive a mem s)
  reload : ∀ ch s, s.port.op = .active → P s → P { s with pat := stepNamed ch s.pat }
  wrap : ∀ s, s.port.op = .active → phaseSteps s = true → P s →
    P { s with pat := { s.pat with phase := phaseAfter s.band.period s.pat.phase } }
  resultOpen : ∀ s, Observes s → P s → P (openResultLatch s)
  resultClose : ∀ s, Observes s → P s → P (closeResultLatch s)
  commitOpen : ∀ s, Observes s → P s → P (openCommitLatch s)
  commitClose : ∀ s, Observes s → P s → P (closeCommitLatch s)
  peekOpen : ∀ s, Observes s → P s → P (openPeekLatch s)
  peekClose : ∀ s, Observes s → P s → P (closePeekLatch s)
  post : ∀ slot w s, Observes s → P s → P (postSlot slot w s)
  shadow : ∀ slot k w s, P s → P (writeShadow slot k w s)
  withdraw : ∀ a s, P s → P (withdraw a s)
  takeStart : ∀ f c d i s, s.port.op = .active → P s → P (takeStart f c d i s)
  takeEnd : ∀ s, s.port.op = .active → P s → P (takeEnd s)
  takeDiscard : ∀ s, s.port.op = .active → P s → P (takeDiscard s)
  offer : ∀ l s, s.port.op = .active → P s → P (offerEntries l (popItem s))
  startSearch : ∀ s, P s → P (startSearch s)
  examine : ∀ s sr e, s.se.search = some sr → P s → P { s with se := { s.se with search := some (examine e sr) } }
  complete : ∀ s sr, s.se.search = some sr → Q s → Q (endSearch (publishAndApply sr s))
  endPass : ∀ i s, s.comp.pass = some i → P s → P (endPass i s)

/-- P is kept by the parts of every command. -/
structure KeptByParts (P Q : State → Prop) : Prop extends KeptByRuns P Q where
  cold : ∀ b s, P (coldReset b s)
  warm : ∀ b s, s.port.op = .transparent → P s → P (warmReset b s)

namespace KeptByRuns

variable (hP : KeptByRuns P Q)
include hP

theorem runDirective (k : DirKind) (h : P s) : P (runDirective k (effectOf k) s) := by
  obtain heq | ⟨e, rest, -, -, hmay, heq⟩ := runDirective_cases s k (effectOf k)
  · exact heq.symm ▸ h
  · exact heq ▸ hP.leave _ (hP.execution.executeEntry k e (hP.enter s h (.inl (observes_of_mayExecute hmay))))

theorem clearEvents (h : P s) (hx : exec .clearEvents s = .next t) : P t := by
  change execClearEvents s = .next t at hx
  unfold execClearEvents at hx
  cases hx
  split
  · exact h
  · next e rest hq =>
    split
    · next hmay =>
      have hentered := hP.enter s h (.inl (observes_of_mayExecute hmay.2))
      exact hP.leave _ (hP.execution.clear _ _ (hP.execution.executeEntry .clearEvents e hentered))
    · exact h

theorem takeWrite (a : Addr) (w : Word) (h : P s) : P (takeWrite a w s) := by
  have hbus := hP.bus (some (.write a w)) none s h
  unfold Machine.takeWrite handWrite
  split
  · next hobs =>
    split
    · unfold handStrap
      split
      · split
        · exact hP.post _ _ _ (observesWrites_iff.mp hobs) hbus
        · exact hP.shadow _ _ _ _ hbus
      · exact hbus
    · have hentered := hP.enter _ hbus (.inl (observesWrites_iff.mp hobs))
      exact hP.withdraw _ _ (hP.leave _ (hP.cursor.handMailbox a w hentered))
  · exact hbus

theorem writeStrap (o : Nat) (w : Word) (h : P s) : P (writeStrap o w s) := by
  unfold Machine.writeStrap
  split
  · exact h
  · exact hP.takeWrite _ _ h

theorem writeMailbox (r k : Nat) (w : Word) (h : P s) : P (writeMailbox r k w s) := by
  unfold Machine.writeMailbox
  split
  · exact h
  · split
    · exact hP.takeWrite _ _ h
    · exact h

theorem hostPaneRead (k : Nat) (mem : Word) {act : State → State} (hact : ∀ u, Observes u → P u → P (act u)) (h : P s) :
    P (hostPaneRead k mem act s) := by
  unfold Machine.hostPaneRead
  split
  · exact h
  · split
    · next hobs => exact hact _ (paneAnswers_iff.mp hobs) (hP.bus _ _ _ h)
    · exact hP.bus _ _ _ h

theorem strokeRead (a : Addr) (mem : Word) (h : P s) (hx : exec (.strokeRead a mem) s = .next t) : P t := by
  by_cases hop : s.port.op = .active
  · rw [exec_strokeRead_of_active hop] at hx
    cases hx
    exact hP.read a mem s hop h
  · obtain ⟨d, u, heq⟩ := exec_strokeRead_of_not_active (a := a) (mem := mem) hop
    rw [heq] at hx
    cases hx
    exact hP.bus d u s h

theorem trigger (hop : s.port.op = .active) (h : P s) : P (trigger s) :=
  hP.leave _ (hP.cursor.trigger s (hP.enter s h (.inl (.inr (.inl hop)))))

theorem channelReload (ch : ChannelName) (h : P s) (hx : exec (.channelReload ch) s = .next t) : P t := by
  change execChannelReload ch s = .next t at hx
  unfold execChannelReload at hx
  cases hx
  split
  · next hdue =>
    have hstep := hP.reload ch s hdue.1 h
    dsimp only
    split
    · exact hP.trigger hdue.1 hstep
    · exact hstep
  · exact h

theorem dashPhaseWrap (h : P s) (hx : exec .dashPhaseWrap s = .next t) : P t := by
  change execDashPhaseWrap s = .next t at hx
  unfold execDashPhaseWrap at hx
  cases hx
  split
  · next hdue => exact hP.trigger hdue.1 (hP.wrap s hdue.1 hdue.2.2.1 h)
  · exact h

theorem searchComplete (h : P s) (hx : exec .searchComplete s = .next t) : P t := by
  change execSearchComplete s = .next t at hx
  unfold execSearchComplete at hx
  cases hx
  split
  · exact h
  · next sr hsr =>
    split
    · have hentered := hP.enter s h (.inr (.inl (by rw [hsr]; exact Option.some_ne_none sr)))
      exact hP.leave _ (hP.execution.finishCompletion _ _ (hP.complete s sr hsr hentered))
    · exact h

theorem faultTaken (h : P s) (hx : exec .faultTaken s = .next t) : P t := by
  change Host.Outcome.next (takeFault s) = .next t at hx
  cases hx
  by_cases hraised : s.flt.raised = []
  · rwa [takeFault, hraised]
  · exact hP.leave _ (hP.execution.takeFault (hP.enter s h (.inr (.inr hraised))))

theorem harvestTaken {c : Instr} (hc : c = .startTaken ∨ c = .endTaken ∨ c = .discardTaken ∨ c = .segmentItemTaken
    ∨ c = .circleItemTaken) (h : P s) (hx : exec c s = .next t) : P t := by
  have hactive : ∀ it, harvestHead s = some it → s.port.op = .active := by
    intro it hit
    unfold harvestHead at hit
    split at hit
    · assumption
    · cases hit
  obtain rfl | rfl | rfl | rfl | rfl := hc
  case inl =>
    change execStartTaken s = .next t at hx
    unfold execStartTaken at hx
    cases hx
    split
    · next hhead => exact hP.takeStart _ _ _ _ s (hactive _ hhead) h
    · exact h
  case inr.inl =>
    change execEndTaken s = .next t at hx
    unfold execEndTaken at hx
    cases hx
    split
    · next hhead => exact hP.takeEnd s (hactive _ hhead) h
    · exact h
  case inr.inr.inl =>
    change execDiscardTaken s = .next t at hx
    unfold execDiscardTaken at hx
    cases hx
    split
    · next hhead => exact hP.takeDiscard s (hactive _ hhead) h
    · exact h
  case inr.inr.inr.inl =>
    change execSegmentItemTaken s = .next t at hx
    unfold execSegmentItemTaken at hx
    cases hx
    split
    · next hhead => exact hP.offer _ s (hactive _ hhead) h
    · exact h
  case inr.inr.inr.inr =>
    change execCircleItemTaken s = .next t at hx
    unfold execCircleItemTaken at hx
    cases hx
    split
    · next hhead => exact hP.offer _ s (hactive _ hhead) h
    · exact h

theorem entryExamined (h : P s) (hx : exec .entryExamined s = .next t) : P t := by
  change execEntryExamined s = .next t at hx
  unfold execEntryExamined at hx
  cases hx
  split
  · exact h
  · next sr hsr =>
    split
    · exact h
    · exact hP.examine s sr _ hsr h

theorem passEnd (h : P s) (hx : exec .passEnd s = .next t) : P t := by
  change execPassEnd s = .next t at hx
  unfold execPassEnd at hx
  cases hx
  split
  · exact h
  · next i hi => exact hP.endPass i s hi h

/-- The property is kept by every command but those two: the directive rows together, and each other command by its parts. -/
theorem exec {c : Instr} (hpower : ∀ b held, c ≠ .powerOn b held) (hpin : ∀ b, c ≠ .resetPinReleased b) (h : P s)
    (hx : exec c s = .next t) : P t := by
  cases hk : rowKind c with
  | some k =>
    rw [exec_of_rowKind hk] at hx
    cases hx
    exact hP.runDirective k h
  | none =>
    cases c
    case powerOn b held => exact absurd rfl (hpower b held)
    case resetPinAsserted => cases hx; exact hP.pin s h
    case resetPinReleased b => exact absurd rfl (hpin b)
    case strokeRead a mem => exact hP.strokeRead a mem h hx
    case channelReload ch => exact hP.channelReload ch h hx
    case dashPhaseWrap => exact hP.dashPhaseWrap h hx
    case resultLatchOpen mem => cases hx; exact hP.hostPaneRead _ mem hP.resultOpen h
    case resultLastWordRead mem => cases hx; exact hP.hostPaneRead _ mem hP.resultClose h
    case commitLatchOpen mem => cases hx; exact hP.hostPaneRead _ mem hP.commitOpen h
    case commitLastWordRead mem => cases hx; exact hP.hostPaneRead _ mem hP.commitClose h
    case peekLatchOpen mem => cases hx; exact hP.hostPaneRead _ mem hP.peekOpen h
    case peekLastWordRead mem => cases hx; exact hP.hostPaneRead _ mem hP.peekClose h
    case slotArgumentWrite slot word data => cases hx; exact hP.writeStrap _ data h
    case directivePosting slot data => cases hx; exact hP.writeStrap _ data h
    case paneWrite word data => cases hx; exact hP.writeStrap _ data h
    case mailboxWordWrite record word data => cases hx; exact hP.writeMailbox _ _ data h
    case sample record status => cases hx; exact hP.writeMailbox _ _ status h
    case withdrawalWrite a data => cases hx; exact hP.takeWrite a data h
    case startTaken | endTaken | discardTaken | segmentItemTaken | circleItemTaken => exact hP.harvestTaken (by simp) h hx
    case searchStart => cases hx; exact hP.startSearch s h
    case entryExamined => exact hP.entryExamined h hx
    case searchComplete => exact hP.searchComplete h hx
    case passEnd => exact hP.passEnd h hx
    case faultTaken => exact hP.faultTaken h hx
    case clearEvents => exact hP.clearEvents h hx
    all_goals cases hk

end KeptByRuns

namespace KeptByParts

variable (hP : KeptByParts P Q)
include hP

theorem powerOn (b : BitVec 6) (held : Bool) (hx : exec (.powerOn b held) s = .next t) : P t := by
  cases hx
  cases held with
  | true => exact hP.pin _ (hP.cold b s)
  | false => exact hP.cold b s

theorem resetPinReleased (b : BitVec 6) (h : P s) (hx : exec (.resetPinReleased b) s = .next t) : P t := by
  change execResetPinReleased b s = .next t at hx
  unfold execResetPinReleased at hx
  cases hx
  split
  · next hop => exact hP.warm b s hop h
  · exact h

theorem exec {c : Instr} (h : P s) (hx : exec c s = .next t) : P t := by
  by_cases hpower : ∃ b held, c = .powerOn b held
  · obtain ⟨b, held, rfl⟩ := hpower
    exact hP.powerOn b held hx
  · by_cases hpin : ∃ b, c = .resetPinReleased b
    · obtain ⟨b, rfl⟩ := hpin
      exact hP.resetPinReleased b h hx
    · exact hP.toKeptByRuns.exec (fun b held hc => hpower ⟨b, held, hc⟩) (fun b hc => hpin ⟨b, hc⟩) h hx

/-- The property is kept by every step, which takes a command off the queue and runs it. -/
theorem step (hqueue : ∀ rest s, P s → P { s with pending := rest }) (h : P s) (hx : step s = .next t) : P t := by
  unfold Machine.step at hx
  split at hx
  · cases hx
    exact h
  · exact hP.exec (hqueue _ s h) hx

end KeptByParts
end Sys2Proof.Machine

/-! PROOFS. The bank triplet under every operation (chapter 2): what each keeps of the states and the capacities of the banks, and
the invariant BanksOk. -/

namespace Sys2Proof.Machine

variable {s t : State}

/-! ### Finding and replacing a bank -/

theorem Triplet.get_set {α : Type} (t : Triplet α) (i j : BankId) (v : α) :
    (t.set i v).get j = if j = i then v else t.get j := by
  cases i <;> cases j <;> rfl

theorem Triplet.get_map {α : Type} (f : α → α) (t : Triplet α) (i : BankId) : (t.map f).get i = f (t.get i) := by
  cases i <;> rfl

theorem findBank_eq_none_iff {b : Triplet Bank} {st : BankState} :
    findBank b st = none ↔ ∀ i, (b.get i).state ≠ st := by
  unfold findBank
  constructor
  · intro h i
    split_ifs at h
    cases i <;> assumption
  · intro h
    have h0 : b.e0.state ≠ st := h .b0
    have h1 : b.e1.state ≠ st := h .b1
    have h2 : b.e2.state ≠ st := h .b2
    rw [if_neg h0, if_neg h1, if_neg h2]

theorem state_of_findBank {b : Triplet Bank} {st : BankState} {i : BankId} (h : findBank b st = some i) :
    (b.get i).state = st := by
  unfold findBank at h
  split_ifs at h <;> cases h <;> assumption

/-- Only the states of the banks tell which one is found. -/
theorem findBank_congr {b c : Triplet Bank} {st : BankState}
    (h : ∀ i, (b.get i).state = st ↔ (c.get i).state = st) : findBank b st = findBank c st := by
  have h0 : b.e0.state = st ↔ c.e0.state = st := h .b0
  have h1 : b.e1.state = st ↔ c.e1.state = st := h .b1
  have h2 : b.e2.state = st ↔ c.e2.state = st := h .b2
  simp only [findBank, h0, h1, h2]

theorem findBank_set {b : Triplet Bank} {st : BankState} {i : BankId} {v : Bank}
    (h : v.state = st ↔ (b.get i).state = st) : findBank (b.set i v) st = findBank b st := by
  refine findBank_congr fun j => ?_
  rw [Triplet.get_set]
  split
  · next hj => rw [hj]; exact h
  · exact Iff.rfl

/-! ### The triplet by itself (R25) -/

/-- What BanksOk says, of the banks alone. -/
structure Triplet.Sound (b : Triplet Bank) : Prop where
  oneEach : ∀ st, st ≠ BankState.empty → ∀ i j, (b.get i).state = st → (b.get j).state = st → i = j
  capacity : ∀ i, (b.get i).entries.length ≤ 1024
  released : ∀ i, (b.get i).state = BankState.empty → (b.get i).entries = []

theorem banksOk_iff : BanksOk s ↔ s.hv.banks.Sound :=
  ⟨fun h => ⟨h.oneEach, h.capacity, h.released⟩, fun h => ⟨h.oneEach, h.capacity, h.released⟩⟩

theorem BanksOk.of_banks (h : BanksOk s) (hb : t.hv.banks = s.hv.banks) : BanksOk t := by
  rw [banksOk_iff, hb]
  exact banksOk_iff.mp h

namespace Triplet.Sound

variable {b : Triplet Bank} {i : BankId} {v : Bank}

/-- A bank is replaced by one in a state that no other bank stands in. -/
theorem set (h : b.Sound) (hlength : v.entries.length ≤ 1024) (hreleased : v.state = .empty → v.entries = [])
    (hfree : v.state ≠ .empty → ∀ j, j ≠ i → (b.get j).state ≠ v.state) : (b.set i v).Sound where
  oneEach := by
    intro st hst j k hj hk
    rw [Triplet.get_set] at hj hk
    split_ifs at hj hk with hji hki hki
    · rw [hji, hki]
    · exact absurd (hk.trans hj.symm) (hfree (hj ▸ hst) k hki)
    · exact absurd (hj.trans hk.symm) (hfree (hk ▸ hst) j hji)
    · exact h.oneEach st hst j k hj hk
  capacity := by
    intro j
    rw [Triplet.get_set]
    split
    · exact hlength
    · exact h.capacity j
  released := by
    intro j hj
    rw [Triplet.get_set] at hj ⊢
    split_ifs at hj ⊢ with hji
    · exact hreleased hj
    · exact h.released j hj

theorem set_released (h : b.Sound) : (b.set i Bank.released).Sound :=
  h.set (Nat.zero_le _) (fun _ => rfl) (fun hn => absurd rfl hn)

/-- A bank keeps its state and, within the capacity, gets other entries or another header. -/
theorem set_same (h : b.Sound) (hstate : v.state = (b.get i).state) (hne : v.state ≠ .empty)
    (hlength : v.entries.length ≤ 1024) : (b.set i v).Sound := by
  refine h.set hlength (fun he => absurd he hne) (fun _ j hj hsame => hj ?_)
  exact h.oneEach v.state hne j i hsame hstate.symm

theorem ne_of_released (h : b.Sound) {st : BankState} (hst : st ≠ .empty) (hi : (b.get i).state = st) (j : BankId) :
    ((b.set i Bank.released).get j).state ≠ st := by
  rw [Triplet.get_set]
  split
  · exact fun he => hst he.symm
  · next hj => exact fun he => hj (h.oneEach st hst j i he hi)

end Triplet.Sound

/-- The bank in a state, if there is one, is released. -/
def releaseBank (st : BankState) (b : Triplet Bank) : Triplet Bank :=
  match findBank b st with
  | none => b
  | some i => b.set i Bank.released

/-- A bank is put in a state. -/
def restateBank (st : BankState) (i : BankId) (b : Triplet Bank) : Triplet Bank := b.set i { b.get i with state := st }

theorem releaseBank_sound {b : Triplet Bank} (h : b.Sound) (st : BankState) : (releaseBank st b).Sound := by
  unfold releaseBank
  split
  · exact h
  · exact h.set_released

theorem ne_of_releaseBank {b : Triplet Bank} (h : b.Sound) {st : BankState} (hst : st ≠ .empty) (i : BankId) :
    ((releaseBank st b).get i).state ≠ st := by
  unfold releaseBank
  split
  · next hnone => exact findBank_eq_none_iff.mp hnone i
  · next j hj => exact h.ne_of_released hst (state_of_findBank hj) i

/-- The release of a bank in one state moves no bank in another. -/
theorem findBank_releaseBank {b : Triplet Bank} {st st' : BankState} (hne : st ≠ st') (he : st' ≠ .empty) :
    findBank (releaseBank st b) st' = findBank b st' := by
  unfold releaseBank
  split
  · rfl
  · next i hi =>
    refine findBank_set ⟨fun hs => absurd hs.symm he, fun hs => ?_⟩
    exact absurd ((state_of_findBank hi).symm.trans hs) hne

/-- The release of one bank keeps the entries and the state of every other, and takes no bank into a new state but EMPTY. -/
theorem state_of_releaseBank {b : Triplet Bank} {st st' : BankState} {i : BankId} (he : st' ≠ .empty)
    (h : ((releaseBank st b).get i).state = st') : (b.get i).state = st' ∧ (releaseBank st b).get i = b.get i := by
  unfold releaseBank at h ⊢
  split at h
  · exact ⟨h, rfl⟩
  · rw [Triplet.get_set] at h ⊢
    split_ifs at h ⊢ with hij
    · exact absurd h.symm he
    · exact ⟨h, rfl⟩

/-! ### The operations on the banks by what they do to the triplet -/

theorem releaseFilling_eq (s : State) : releaseFilling s = setBanks (releaseBank .filling s.hv.banks) s := by
  unfold releaseFilling releaseBank
  cases findBank s.hv.banks .filling <;> rfl

/-- R26: the lowest-numbered EMPTY bank, if there is one, is taken with a fresh header. -/
theorem takeStart_eq (f : BitVec 32) (c : Pt) (d : Nat) (x : Bool) (s : State) : takeStart f c d x s =
    { s with hv := ⟨s.hv.queue.tail, match findBank (releaseBank .filling s.hv.banks) .empty with
      | none => releaseBank .filling s.hv.banks
      | some i => (releaseBank .filling s.hv.banks).set i ⟨.filling, ⟨f, c, s.se.snap.half, d, false, x⟩, []⟩, none⟩ } := by
  unfold takeStart
  rw [releaseFilling_eq]
  change (match findBank (releaseBank .filling s.hv.banks) .empty with
    | none => _
    | some i => _) = _
  cases findBank (releaseBank .filling s.hv.banks) .empty <;> rfl

/-- R27: the FILLING bank becomes READY in the place of an older READY bank. -/
theorem takeEnd_cases (s : State) :
    (findBank s.hv.banks .filling = none ∧ takeEnd s = popItem (startOwedSearch s))
    ∨ ∃ i u, findBank s.hv.banks .filling = some i
      ∧ u = setBanks (restateBank .ready i (releaseBank .ready s.hv.banks)) (popItem (startOwedSearch s))
      ∧ takeEnd s = if u.se.search.isNone then promote u else u := by
  have hbanks : (popItem (startOwedSearch s)).hv.banks = s.hv.banks := by simp
  unfold takeEnd
  dsimp only
  rw [hbanks]
  split
  · next h => exact .inl ⟨h, rfl⟩
  · next i h => exact .inr ⟨i, _, h, rfl, rfl⟩

/-- R29: the READY bank becomes CURRENT in the place of the old CURRENT bank. -/
theorem promote_eq (s : State) : promote s = match findBank s.hv.banks .ready with
    | none => s
    | some r => fileMotion { s with
        hv := { s.hv with banks := restateBank .current r (releaseBank .current s.hv.banks) }
        pane := { s.pane with peek := 0, peekLatch := none } } := by
  unfold promote
  cases findBank s.hv.banks .ready with
  | none => rfl
  | some r =>
    unfold releaseBank
    cases findBank s.hv.banks .current <;> rfl

/-- A drop changes no bank, or the header of the FILLING bank (R24). -/
theorem recordDrop_banks (before after : List QItem) (s : State) :
    (recordDrop before after s).hv.banks = s.hv.banks
    ∨ ∃ i h, findBank s.hv.banks .filling = some i
      ∧ (recordDrop before after s).hv.banks = s.hv.banks.set i { s.hv.banks.get i with header := h } := by
  unfold recordDrop
  split
  · exact .inl (by simp)
  · dsimp only
    split
    · exact .inl rfl
    · next i hi => exact .inr ⟨i, _, hi, by simp; rfl⟩

/-- An offer changes no bank, or the header of the FILLING bank, or appends an entry to it within the capacity (R35). -/
theorem offerEntry_banks (e : Entry) (s : State) :
    (offerEntry e s).hv.banks = s.hv.banks
    ∨ ∃ i v, findBank s.hv.banks .filling = some i ∧ v.state = (s.hv.banks.get i).state
      ∧ (v.entries = (s.hv.banks.get i).entries
        ∨ (v.entries = (s.hv.banks.get i).entries ++ [e] ∧ (s.hv.banks.get i).entries.length < 1024))
      ∧ (offerEntry e s).hv.banks = s.hv.banks.set i v := by
  unfold offerEntry
  split
  · exact .inl rfl
  · next i hi =>
    dsimp only
    split
    · exact .inl rfl
    · split
      · next hroom =>
        exact .inr ⟨i, { s.hv.banks.get i with entries := (s.hv.banks.get i).entries ++ [e] }, hi, rfl,
          .inr ⟨rfl, hroom⟩, rfl⟩
      · refine .inr ⟨i, { s.hv.banks.get i with header := { (s.hv.banks.get i).header with
          dropped := satInc (s.hv.banks.get i).header.dropped, crowded := true } }, hi, rfl, .inl rfl, ?_⟩
        split <;> rfl

/-! ### BanksOk -/

namespace Triplet.Sound

variable {b : Triplet Bank} {i : BankId}

/-- A bank takes a state that is released elsewhere (R26, R27, R29). -/
theorem restate (h : b.Sound) {st : BankState} (hst : st ≠ .empty) : (restateBank st i (releaseBank st b)).Sound := by
  have hr := releaseBank_sound h st
  exact hr.set (hr.capacity i) (fun he => absurd he hst) (fun _ j _ => ne_of_releaseBank h hst j)

end Triplet.Sound

theorem emptied_sound : Harvester.emptied.banks.Sound where
  oneEach := by
    intro st hst i j hi _
    exact absurd (by rw [← hi]; cases i <;> rfl) hst
  capacity := by
    intro i
    cases i <;> exact Nat.zero_le _
  released := by
    intro i _
    cases i <;> rfl

theorem BanksOk.of_emptied (ht : t.hv = Harvester.emptied) : BanksOk t := by
  rw [banksOk_iff, ht]
  exact emptied_sound

theorem BanksOk.recordDrop (h : BanksOk s) (before after : List QItem) : BanksOk (recordDrop before after s) := by
  rw [banksOk_iff] at h ⊢
  obtain heq | ⟨i, x, hi, heq⟩ := recordDrop_banks before after s
  · rwa [heq]
  · rw [heq]
    have hstate := state_of_findBank hi
    exact h.set_same rfl (by rw [hstate]; decide) (h.capacity i)

theorem BanksOk.queueItem (h : BanksOk s) (it : QItem) : BanksOk (queueItem it s) := by
  obtain ⟨-, heq⟩ | ⟨-, heq⟩ := queueItem_cases s it
  · exact heq ▸ h.of_banks rfl
  · exact heq ▸ h.recordDrop _ _

theorem BanksOk.queueMarker (h : BanksOk s) (it : QItem) : BanksOk (queueMarker it s) := by
  unfold Machine.queueMarker
  split
  · exact h.of_banks rfl
  · exact h.recordDrop _ _

theorem BanksOk.takeStart (h : BanksOk s) (f : BitVec 32) (c : Pt) (d : Nat) (x : Bool) :
    BanksOk (takeStart f c d x s) := by
  rw [banksOk_iff] at h ⊢
  rw [takeStart_eq]
  have hr := releaseBank_sound h .filling
  dsimp only
  split
  · exact hr
  · next i hi =>
    exact hr.set (Nat.zero_le _) (fun _ => rfl) (fun _ j _ => ne_of_releaseBank h (by decide) j)

theorem BanksOk.promote (h : BanksOk s) : BanksOk (promote s) := by
  rw [banksOk_iff] at h ⊢
  rw [promote_eq]
  split
  · exact h
  · next r hr =>
    have hbanks := h.restate (st := .current) (i := r) (by decide)
    simpa using hbanks

theorem BanksOk.takeEnd (h : BanksOk s) : BanksOk (takeEnd s) := by
  obtain ⟨-, heq⟩ | ⟨i, u, hi, rfl, heq⟩ := takeEnd_cases s
  · exact heq ▸ h.of_banks (by simp)
  · have hready : BanksOk (setBanks (restateBank .ready i (releaseBank .ready s.hv.banks)) (popItem (startOwedSearch s))) :=
      banksOk_iff.mpr ((banksOk_iff.mp h).restate (by decide))
    rw [heq]
    split
    · exact hready.promote
    · exact hready

theorem BanksOk.offerEntry (h : BanksOk s) (e : Entry) : BanksOk (offerEntry e s) := by
  rw [banksOk_iff] at h ⊢
  obtain heq | ⟨i, v, hi, hstate, hentries, heq⟩ := offerEntry_banks e s
  · rwa [heq]
  · rw [heq]
    refine h.set_same hstate (by rw [hstate, state_of_findBank hi]; decide) ?_
    obtain he | ⟨he, hroom⟩ := hentries
    · rw [he]
      exact h.capacity i
    · rw [he, List.length_append]
      exact hroom

theorem BanksOk.offerEntries (h : BanksOk s) (l : List Entry) : BanksOk (offerEntries l s) := by
  induction l generalizing s with
  | nil => exact h
  | cons e rest ih => exact ih (h.offerEntry e)

theorem BanksOk.withdraw (h : BanksOk s) (a : Addr) : BanksOk (withdraw a s) := by
  have hget : ∀ i, ((Machine.withdraw a s).hv.banks.get i) = (s.hv.banks.get i).withdraw a :=
    fun i => Triplet.get_map _ _ i
  refine ⟨fun st hst i j hi hj => h.oneEach st hst i j ?_ ?_, fun i => ?_, fun i hi => ?_⟩
  · rwa [hget i] at hi
  · rwa [hget j] at hj
  · rw [hget, Bank.withdraw, List.length_map]
    exact h.capacity i
  · rw [hget] at hi ⊢
    rw [Bank.withdraw, h.released i hi, List.map_nil]


theorem applyConfigure_cases (e : DirEntry) (s : State) :
    ((mapOf e).Fits s.port.strap ∧ (applyConfigure e s).1 = configureWith (mapOf e) s) ∨ (applyConfigure e s).1 = s := by
  by_cases h : (mapOf e).Fits s.port.strap
  · exact .inl ⟨h, by rw [applyConfigure_of_fits h]⟩
  · exact .inr (by rw [applyConfigure_of_not_fits h])

theorem configureWith_hv (m : RegionMap) (s : State) : (configureWith m s).hv = Harvester.emptied := by
  simp [configureWith]

theorem restartReset_hv (s : State) : (restartReset s).hv = Harvester.emptied := (cleared_restartReset s).harvest

theorem warmReset_hv (b : BitVec 6) (s : State) : (warmReset b s).hv = Harvester.emptied :=
  (cleared_warmReset b s).harvest

/-- Only CONFIGURE and RESTART reach the Harvester. -/
theorem effectOf_hv {k : DirKind} (hc : k ≠ .configure) (hr : k ≠ .restart) (e : DirEntry) (s : State) :
    (effectOf k e s).1.hv = s.hv := by
  cases k
  case configure => exact absurd rfl hc
  case restart => exact absurd rfl hr
  all_goals simp [effectOf]

theorem BanksOk.effect (h : BanksOk s) (k : DirKind) (e : DirEntry) : BanksOk (effectOf k e s).1 := by
  by_cases hc : k = .configure
  · subst hc
    obtain ⟨-, heq⟩ | heq := applyConfigure_cases e s
    · exact BanksOk.of_emptied (by rw [effectOf, heq, configureWith_hv])
    · rwa [effectOf, heq]
  · by_cases hr : k = .restart
    · exact hr ▸ BanksOk.of_emptied (restartReset_hv s)
    · exact h.of_banks (congrArg Harvester.banks (effectOf_hv hc hr e s))

theorem banksOk_execution : KeptByExecution BanksOk where
  effect k e _ h := h.effect k e
  outcome _ _ _ h := h.of_banks (by simp)
  clear _ _ h := h.of_banks rfl
  record _ _ _ h := h.of_banks rfl
  bypass _ _ _ := BanksOk.of_emptied rfl
  owe _ h := h.of_banks rfl

theorem banksOk_cursor : KeptByCursor BanksOk where
  capture _ _ _ _ h := h.of_banks rfl
  ring _ _ _ _ h := h.of_banks (by simp)
  proximity _ _ h := h.of_banks (by simp)
  move _ _ h := h.of_banks rfl
  prev _ _ h := h.of_banks rfl
  motion _ h := h.of_banks (by simp)
  press _ _ h := h.of_banks (by simp)
  trigger _ h := h.of_banks (by simp)
  settings _ _ _ _ _ _ _ _ h := h.of_banks rfl

theorem banksOk_tracking : KeptByTracking BanksOk where
  raise _ _ _ _ h := h.of_banks rfl
  item it _ h := h.queueItem it
  marker it _ h := h.queueMarker it
  track _ _ h := h.of_banks rfl
  lose _ _ h := h.of_banks rfl
  pattern _ h := h.of_banks (by simp)

theorem BanksOk.publishAndApply (h : BanksOk s) (sr : Search) : BanksOk (publishAndApply sr s) := by
  have hfiled : ∀ u : State, BanksOk u → BanksOk (if u.se.result.withdrawn then fileMotion u else u) := by
    intro u hu
    split
    · exact hu.of_banks (by simp)
    · exact hu
  have happlied : BanksOk (applyPress sr (publish sr s)) := h.of_banks (by simp)
  exact banksOk_cursor.trigger _ (hfiled _ happlied).promote

theorem banksOk_parts : KeptByParts BanksOk BanksOk where
  execution := banksOk_execution
  enter _ h _ := h
  leave _ h := h
  cursor := banksOk_cursor
  bus _ _ _ h := h.of_banks rfl
  cold b s := BanksOk.of_emptied (by rw [coldReset_eq]; rfl)
  pin _ _ := BanksOk.of_emptied rfl
  warm b s _ _ := BanksOk.of_emptied (warmReset_hv b s)
  read a mem s _ h := by
    have hanswered : BanksOk (strokeAnswer a mem (chooseFreeze a s)) := h.of_banks (by simp)
    exact (banksOk_tracking.copyToTracker a hanswered).of_banks (by simp [readActive])
  reload _ _ _ h := h.of_banks rfl
  wrap _ _ _ h := h.of_banks rfl
  resultOpen _ _ h := h.of_banks rfl
  resultClose _ _ h := h.of_banks rfl
  commitOpen _ _ h := h.of_banks rfl
  commitClose _ _ h := h.of_banks rfl
  peekOpen _ _ h := h.of_banks rfl
  peekClose _ _ h := h.of_banks (by simp)
  post _ _ _ _ h := h.of_banks (by simp)
  shadow _ _ _ _ h := h.of_banks (by simp)
  withdraw a _ h := h.withdraw a
  takeStart f c d x _ _ h := h.takeStart f c d x
  takeEnd _ _ h := h.takeEnd
  takeDiscard s _ h := by
    rw [takeDiscard, releaseFilling_eq]
    exact banksOk_iff.mpr (releaseBank_sound (banksOk_iff.mp h) .filling)
  offer l _ _ h := (show BanksOk (popItem _) from h.of_banks rfl).offerEntries l
  startSearch _ h := h.of_banks (by simp)
  examine _ _ _ _ h := h.of_banks rfl
  complete _ sr _ h := (h.publishAndApply sr).of_banks rfl
  endPass _ _ _ h := h.of_banks (by simp)
end Sys2Proof.Machine

/-! PROOFS. The search in flight under every operation (chapter 3): the invariant SearchOk. -/

namespace Sys2Proof.Machine

variable {s t : State}

/-! ### SearchOk by what it speaks of -/

theorem SearchOk.of (h : SearchOk s)
    (hsearch : t.se.search = none
      ∨ t.se.search = s.se.search ∧ findBank t.hv.banks .current = findBank s.hv.banks .current)
    (hsnap : t.se.snap = s.se.snap) (hpresses : ∀ p ∈ t.se.presses, p.point.OnScreen) (hpos : t.cu.pos.OnScreen)
    (howed : t.se.startOwed = true → t.se.search = none ∧ (t.se.presses ≠ [] ∨ t.se.motion = true)) : SearchOk t := by
  obtain hnone | ⟨hsame, hbank⟩ := hsearch
  · refine ⟨?_, ?_, ?_, ?_, ?_, hpresses, hpos, howed, hsnap ▸ h.settings⟩
    all_goals
      intro sr hsr
      rw [hnone] at hsr
      cases hsr
  · refine ⟨fun sr hsr => ?_, fun sr hsr => h.cursor sr (hsame ▸ hsr), fun sr hsr => h.aperture sr (hsame ▸ hsr),
      fun sr hsr => h.kept sr (hsame ▸ hsr), fun sr hsr => h.hold sr (hsame ▸ hsr), hpresses, hpos, howed,
      hsnap ▸ h.settings⟩
    rw [hbank]
    exact h.bank sr (hsame ▸ hsr)

theorem SearchOk.of_blocks (h : SearchOk s) (hse : t.se = s.se) (hpos : t.cu.pos = s.cu.pos)
    (hbank : findBank t.hv.banks .current = findBank s.hv.banks .current) : SearchOk t :=
  h.of (.inr ⟨by rw [hse], hbank⟩) (by rw [hse]) (hse ▸ h.presses) (hpos ▸ h.position) (hse ▸ h.owed)

/-- The engine is IDLE with no request pending, and its snap settings stand. -/
theorem SearchOk.of_idle (h : SearchOk s) (hsearch : t.se.search = none) (hpresses : t.se.presses = [])
    (howed : t.se.startOwed = false) (hsnap : t.se.snap = s.se.snap) (hpos : t.cu.pos.OnScreen) : SearchOk t :=
  h.of (.inl hsearch) hsnap (by rw [hpresses]; exact fun p hp => absurd hp (List.not_mem_nil)) hpos
    (fun ho => absurd (howed.symm.trans ho) Bool.false_ne_true)

theorem onScreen_start : (⟨2048, 2048⟩ : Pt).OnScreen := by decide

theorem onScreen_clampPt (p : Pt) : (clampPt p).OnScreen := by
  refine ⟨?_, ?_, ?_, ?_⟩ <;> simp [clampPt, clampCoord]

/-! ### The CURRENT bank under the operations on the banks -/

theorem current_recordDrop (before after : List QItem) (s : State) :
    findBank (recordDrop before after s).hv.banks .current = findBank s.hv.banks .current := by
  obtain heq | ⟨i, x, -, heq⟩ := recordDrop_banks before after s
  · rw [heq]
  · rw [heq]
    exact findBank_set Iff.rfl

theorem current_queueItem (it : QItem) (s : State) :
    findBank (queueItem it s).hv.banks .current = findBank s.hv.banks .current := by
  obtain ⟨-, heq⟩ | ⟨-, heq⟩ := queueItem_cases s it
  · rw [heq]
  · rw [heq, current_recordDrop]

theorem current_queueMarker (it : QItem) (s : State) :
    findBank (queueMarker it s).hv.banks .current = findBank s.hv.banks .current := by
  unfold queueMarker
  split
  · rfl
  · exact current_recordDrop _ _ s

theorem current_takeStart (f : BitVec 32) (c : Pt) (d : Nat) (x : Bool) (s : State) :
    findBank (takeStart f c d x s).hv.banks .current = findBank s.hv.banks .current := by
  rw [takeStart_eq, ← findBank_releaseBank (b := s.hv.banks) (st := .filling) (by decide) (by decide)]
  dsimp only
  split
  · rfl
  · next i hi =>
    refine findBank_set ⟨fun h => ?_, fun h => ?_⟩
    · cases h
    · rw [state_of_findBank hi] at h
      cases h

theorem current_restateBank {st : BankState} {i : BankId} {b : Triplet Bank} (hst : st ≠ .current)
    (hi : (b.get i).state ≠ .current) : findBank (restateBank st i (releaseBank st b)) .current = findBank b .current := by
  rw [← findBank_releaseBank (b := b) (st := st) (st' := .current) hst (by decide)]
  exact findBank_set ⟨fun h => absurd h hst, fun h => absurd (state_of_releaseBank (by decide) h).1 hi⟩

theorem current_offerEntry (e : Entry) (s : State) :
    findBank (offerEntry e s).hv.banks .current = findBank s.hv.banks .current := by
  obtain heq | ⟨i, v, -, hstate, -, heq⟩ := offerEntry_banks e s
  · rw [heq]
  · rw [heq]
    exact findBank_set (by rw [hstate])

theorem current_offerEntries (l : List Entry) (s : State) :
    findBank (offerEntries l s).hv.banks .current = findBank s.hv.banks .current := by
  induction l generalizing s with
  | nil => rfl
  | cons e rest ih => exact (ih (offerEntry e s)).trans (current_offerEntry e s)

theorem current_withdraw (a : Addr) (s : State) :
    findBank (withdraw a s).hv.banks .current = findBank s.hv.banks .current := by
  refine findBank_congr fun i => ?_
  rw [show (withdraw a s).hv.banks.get i = (s.hv.banks.get i).withdraw a from Triplet.get_map _ _ i]
  exact Iff.rfl

/-! ### Requests and the start of a search (R41 to R46) -/

theorem SearchOk.fileMotion (h : SearchOk s) : SearchOk (fileMotion s) := by
  obtain ⟨-, heq⟩ | ⟨-, -, heq⟩ := fileMotion_cases s
  · exact heq.symm ▸ h
  · rw [heq]
    exact h.of (.inr ⟨rfl, rfl⟩) rfl h.presses h.position fun ho => ⟨(h.owed ho).1, .inr rfl⟩

theorem SearchOk.filePress (h : SearchOk s) {p : Press} (hp : p.point.OnScreen) : SearchOk (filePress p s) := by
  obtain ⟨-, heq⟩ | ⟨-, -, heq⟩ | ⟨-, -, heq⟩ := filePress_cases s p
  · exact heq.symm ▸ h
  · rw [heq]
    refine h.of (.inr ⟨rfl, rfl⟩) rfl (fun q hq => ?_) h.position fun ho => ⟨(h.owed ho).1, .inl (by simp)⟩
    obtain hq | hq := List.mem_append.mp hq
    · exact h.presses q hq
    · rwa [List.mem_singleton.mp hq]
  · exact heq ▸ (h.of_blocks (t := raise .pressOverrun (p.mask.setWidth 20) 0 s) rfl rfl rfl).fileMotion

theorem SearchOk.searchProximity (h : SearchOk s) (b : Bool) : SearchOk (searchProximity b s) := by
  cases b with
  | true => exact h.fileMotion
  | false =>
    refine h.of (.inr ⟨rfl, rfl⟩) rfl h.presses h.position fun ho => ?_
    obtain ⟨hold, hpresses⟩ := Bool.and_eq_true_iff.mp ho
    exact ⟨(h.owed hold).1, .inl (by simpa using hpresses)⟩

theorem SearchOk.setProximity (h : SearchOk s) (b : Bool) : SearchOk (setProximity b s) := by
  obtain ⟨-, heq⟩ | ⟨-, heq⟩ := setProximity_cases s b
  · exact heq.symm ▸ h
  · have hset : SearchOk (setEvent .proximity { s with cu := { s.cu with inRange := b } }) := h.of_blocks rfl rfl rfl
    rw [heq]
    exact (hset.searchProximity b).of_blocks (by simp) (by simp) (by simp)

theorem SearchOk.startSearch (h : SearchOk s) : SearchOk (startSearch s) := by
  obtain ⟨-, heq⟩ | ⟨r, rest, m, -, hrequest, heq⟩ := startSearch_cases s
  · exact heq.symm ▸ h
  · have hcursor : (searchInputs r s).cursor.OnScreen ∧ ∀ p ∈ rest, p.point.OnScreen := by
      obtain ⟨p, hpresses, rfl, -⟩ | ⟨-, -, rfl, rfl, -⟩ := hrequest
      · have hall := h.presses
        rw [hpresses] at hall
        exact ⟨hall p List.mem_cons_self, fun q hq => hall q (List.mem_cons_of_mem p hq)⟩
      · exact ⟨h.position, fun p hp => absurd hp List.not_mem_nil⟩
    rw [heq]
    refine ⟨?_, ?_, ?_, ?_, ?_, hcursor.2, h.position, fun ho => absurd ho Bool.false_ne_true, h.settings⟩
    all_goals
      intro sr hsr
      obtain rfl : searchInputs r s = sr := Option.some.inj hsr
    · rfl
    · exact hcursor.1
    · exact h.settings
    · exact fun c hc => absurd hc List.not_mem_nil
    · exact fun c hc => nomatch hc

theorem SearchOk.startOwedSearch (h : SearchOk s) : SearchOk (startOwedSearch s) := by
  obtain ⟨-, heq⟩ | ⟨-, heq⟩ := startOwedSearch_cases s
  · exact heq.symm ▸ h
  · exact heq ▸ h.startSearch

theorem SearchOk.oweStart (h : SearchOk s) : SearchOk (oweStart s) := by
  refine h.of (.inr ⟨rfl, rfl⟩) rfl h.presses h.position fun ho => ?_
  have hdue : startDue s = true := ho
  simp only [startDue, Bool.and_eq_true, Bool.or_eq_true, Bool.not_eq_true', Option.isNone_iff_eq_none] at hdue
  obtain ⟨⟨-, hidle⟩, hpending⟩ := hdue
  exact ⟨hidle, hpending.imp_left fun hp => by simpa using hp⟩

/-! ### Examination (R47 to R53) -/

theorem measured_of_mem_contendersOf {sr : Search} {e : Entry} {place : Nat} {c : Contender}
    (h : c ∈ contendersOf sr e place) : c.Measured sr.cursor := by
  have hmeasured : ∀ k b p, c = contenderAt sr e place k b p → c.Measured sr.cursor := by
    intro k b p hc
    rw [hc]
    rfl
  unfold contendersOf at h
  split at h
  · split at h
    · exact hmeasured _ _ _ (List.mem_singleton.mp h)
    · cases h
  · obtain h | h := List.mem_append.mp h
    · split at h
      · exact hmeasured _ _ _ (List.mem_singleton.mp h)
      · cases h
    · split at h
      · split at h
        · cases h
        · exact hmeasured _ _ _ (List.mem_singleton.mp h)
      · cases h
  · split at h
    · exact hmeasured _ _ _ (List.mem_singleton.mp h)
    · cases h

theorem examine_keeps (e : Entry) (sr : Search) :
    (examine e sr).bank = sr.bank ∧ (examine e sr).cursor = sr.cursor ∧ (examine e sr).aperture = sr.aperture
    ∧ (examine e sr).margin = sr.margin ∧ (examine e sr).prio = sr.prio ∧ (examine e sr).request = sr.request := by
  unfold examine
  split <;> exact ⟨rfl, rfl, rfl, rfl, rfl, rfl⟩

theorem mem_kept_examine {e : Entry} {sr : Search} {c : Contender} (h : c ∈ (examine e sr).kept) :
    c ∈ sr.kept ∨ (c ∈ contendersOf sr e sr.next ∧ c.d2 ≤ sr.aperture * sr.aperture) := by
  unfold examine at h
  split at h
  · exact .inl h
  · refine (List.mem_append.mp h).imp_right fun hc => ?_
    obtain ⟨hmem, hin⟩ := List.mem_filter.mp hc
    exact ⟨hmem, of_decide_eq_true hin⟩

theorem hold_examine {e : Entry} {sr : Search} {c : Contender} (h : (examine e sr).hold = some c) :
    sr.hold = some c ∨ c ∈ contendersOf sr e sr.next := by
  unfold examine at h
  split at h
  · exact .inl h
  · dsimp only at h
    split at h
    · exact .inl h
    · split at h
      · obtain ⟨x, -, hx⟩ := Option.bind_eq_some_iff.mp h
        exact .inr (List.mem_of_find?_eq_some hx)
      · exact .inl h

theorem SearchOk.examine (h : SearchOk s) {sr : Search} (hsr : s.se.search = some sr) (e : Entry) :
    SearchOk { s with se := { s.se with search := some (examine e sr) } } := by
  obtain ⟨hbank, hcursor, haperture, hmargin, -⟩ := examine_keeps e sr
  refine ⟨?_, ?_, ?_, ?_, ?_, h.presses, h.position, fun ho => ?_, h.settings⟩
  case refine_6 =>
    rw [(h.owed ho).1] at hsr
    cases hsr
  all_goals
    intro x hx
    obtain rfl : Machine.examine e sr = x := Option.some.inj hx
  · exact hbank.trans (h.bank sr hsr)
  · exact hcursor ▸ h.cursor sr hsr
  · rw [haperture, hmargin]
    exact h.aperture sr hsr
  · intro c hc
    rw [hcursor, haperture]
    obtain hc | ⟨hc, hin⟩ := mem_kept_examine hc
    · exact h.kept sr hsr c hc
    · exact ⟨measured_of_mem_contendersOf hc, hin⟩
  · intro c hc
    rw [hcursor]
    obtain hc | hc := hold_examine hc
    · exact h.hold sr hsr c hc
    · exact measured_of_mem_contendersOf hc

/-! ### Completion (R58) -/

theorem promote_startOwed (s : State) : (promote s).se.startOwed = s.se.startOwed := by
  rw [promote_eq]
  split <;> simp

theorem publishAndApply_requests (sr : Search) (s : State) :
    (publishAndApply sr s).se.presses = s.se.presses ∧ (publishAndApply sr s).se.startOwed = s.se.startOwed
    ∧ (publishAndApply sr s).se.snap = s.se.snap := by
  have hpublished : (publish sr s).se = { s.se with result := resultOf sr s, identity := identityOf sr } := rfl
  unfold publishAndApply
  dsimp only
  split <;> simp [promote_startOwed, hpublished]

theorem SearchOk.complete (h : SearchOk s) {sr : Search} (hsr : s.se.search = some sr) :
    SearchOk (endSearch (publishAndApply sr s)) := by
  obtain ⟨hpresses, howed, hsnap⟩ := publishAndApply_requests sr s
  have hposition : (publishAndApply sr s).cu = s.cu := by simp
  refine h.of (.inl rfl) hsnap (fun p hp => h.presses p ?_) (hposition ▸ h.position) fun ho => ?_
  · rwa [← hpresses]
  · have hnone := (h.owed (howed ▸ ho)).1
    rw [hsr] at hnone
    cases hnone

/-! ### The markers and the promotion (R26 to R29) -/

/-- With the engine IDLE a promotion moves no bank that a search holds. -/
theorem SearchOk.promote (h : SearchOk s) (hidle : s.se.search = none) : SearchOk (promote s) := by
  rw [promote_eq]
  split
  · exact h
  · exact SearchOk.fileMotion (h.of (.inl hidle) rfl h.presses h.position h.owed)

theorem SearchOk.takeEnd (h : SearchOk s) : SearchOk (takeEnd s) := by
  have hstarted := h.startOwedSearch
  have hpopped : SearchOk (popItem (Machine.startOwedSearch s)) := hstarted.of_blocks rfl rfl rfl
  obtain ⟨-, heq⟩ | ⟨i, u, hi, rfl, heq⟩ := takeEnd_cases s
  · exact heq ▸ hpopped
  · have hready := hpopped.of_blocks (t := setBanks (restateBank .ready i (releaseBank .ready s.hv.banks))
      (popItem (Machine.startOwedSearch s))) rfl rfl (by
        have hbanks : (popItem (Machine.startOwedSearch s)).hv.banks = s.hv.banks := by simp
        rw [hbanks]
        exact current_restateBank (by decide) (by rw [state_of_findBank hi]; decide))
    rw [heq]
    split
    · next hidle => exact hready.promote (Option.isNone_iff_eq_none.mp hidle)
    · exact hready

/-! ### SearchOk under every command -/

theorem searchOk_cursor : KeptByCursor SearchOk where
  capture r b w _ h := h.of_blocks rfl (captureWord_keeps r b w _).2.2.2.2.2.2.2.1 rfl
  ring _ _ _ _ h := h.of_blocks (by simp) (by simp) (by simp)
  proximity b _ h := h.setProximity b
  move p _ h := h.of (.inr ⟨rfl, rfl⟩) rfl h.presses (onScreen_clampPt p) h.owed
  prev _ _ h := h.of_blocks rfl rfl rfl
  motion _ h := h.fileMotion
  press _ _ h := h.filePress h.position
  trigger _ h := h.of_blocks (by simp) (by simp) (by simp)
  settings _ _ _ _ _ _ _ _ h := h.of_blocks rfl rfl rfl

theorem searchOk_tracking : KeptByTracking SearchOk where
  raise _ _ _ _ h := h.of_blocks rfl rfl rfl
  item it s h := h.of_blocks (by simp) (by simp) (current_queueItem it s)
  marker it s h := h.of_blocks (by simp) (by simp) (current_queueMarker it s)
  track _ _ h := h.of_blocks rfl rfl rfl
  lose _ _ h := h.of_blocks rfl rfl rfl
  pattern _ h := h.of_blocks (by simp) (by simp) (by simp)

theorem SearchOk.restartReset (h : SearchOk s) : SearchOk (restartReset s) := by
  have hcleared := cleared_restartReset s
  exact h.of_idle (by rw [hcleared.search]) (by rw [hcleared.search]) (by rw [hcleared.search])
    (by rw [hcleared.search]) (by rw [hcleared.cursor]; exact onScreen_start)

theorem SearchOk.warmReset (h : SearchOk s) (b : BitVec 6) : SearchOk (warmReset b s) := by
  have hcleared := cleared_warmReset b s
  exact h.of_idle (by rw [hcleared.search]) (by rw [hcleared.search]) (by rw [hcleared.search])
    (by rw [hcleared.search]) (by rw [hcleared.cursor]; exact onScreen_start)

theorem SearchOk.configureWith (h : SearchOk s) (m : RegionMap) : SearchOk (configureWith m s) := by
  have hse : (Machine.configureWith m s).se =
      { s.se with presses := [], motion := false, search := none, startOwed := false } := by simp [Machine.configureWith]
  exact h.of_idle (by rw [hse]) (by rw [hse]) (by rw [hse]) (by rw [hse]) (by simpa using h.position)

theorem snapOf_ranges (e : DirEntry) :
    1 ≤ (snapOf e).aperture ∧ (snapOf e).aperture ≤ 255 ∧ (snapOf e).margin ≤ 64 := by
  simp only [snapOf, clampNat]
  omega

theorem SearchOk.applySetSnap (h : SearchOk s) (e : DirEntry) : SearchOk (applySetSnap e s).1 :=
  ⟨h.bank, h.cursor, h.aperture, h.kept, h.hold, h.presses, h.position, h.owed, snapOf_ranges e⟩

theorem applyDirections_startOwed (e : DirEntry) (s : State) :
    (applyLoadDirections e s).1.se.startOwed = s.se.startOwed
    ∧ (applyContinueDirections e s).1.se.startOwed = s.se.startOwed := by
  unfold applyLoadDirections applyContinueDirections loadTable
  constructor
  · dsimp only
    split <;> rfl
  · dsimp only
    split
    · rfl
    · split <;> rfl

theorem SearchOk.effect (h : SearchOk s) (k : DirKind) (e : DirEntry) : SearchOk (effectOf k e s).1 := by
  cases k
  case configure =>
    obtain ⟨-, heq⟩ | heq := applyConfigure_cases e s
    · exact heq ▸ h.configureWith _
    · exact heq.symm ▸ h
  case restart => exact h.restartReset
  case setInput => exact searchOk_cursor.applySetInput e h
  case setCursor => exact searchOk_cursor.applySetCursor e h
  case setSnap => exact h.applySetSnap e
  case setGrid | setConstraint => exact h.of (.inr ⟨rfl, rfl⟩) rfl h.presses h.position h.owed
  case loadDirections =>
    have hkept := (applyDirections_startOwed e s).1
    exact h.of (.inr ⟨by simp [effectOf], by simp [effectOf]⟩) (by simp [effectOf])
      (by simpa [effectOf] using h.presses) (by simpa [effectOf] using h.position)
      (by simpa [effectOf, hkept] using h.owed)
  case continueDirections =>
    have hkept := (applyDirections_startOwed e s).2
    exact h.of (.inr ⟨by simp [effectOf], by simp [effectOf]⟩) (by simp [effectOf])
      (by simpa [effectOf] using h.presses) (by simpa [effectOf] using h.position)
      (by simpa [effectOf, hkept] using h.owed)
  all_goals exact h.of_blocks (by simp [effectOf]) (by simp [effectOf]) (by simp [effectOf])

theorem searchOk_execution : KeptByExecution SearchOk where
  effect k e _ h := h.effect k e
  outcome _ _ _ h := h.of_blocks (by simp) (by simp) (by simp)
  clear _ _ h := h.of_blocks rfl rfl rfl
  record _ _ _ h := h.of_blocks rfl rfl rfl
  bypass _ _ h := h.of_idle rfl rfl rfl rfl h.position
  owe _ h := h.oweStart

theorem searchOk_reset : SearchOk State.reset where
  bank _ hsr := nomatch hsr
  cursor _ hsr := nomatch hsr
  aperture _ hsr := nomatch hsr
  kept _ hsr := nomatch hsr
  hold _ hsr := nomatch hsr
  presses _ hp := absurd hp List.not_mem_nil
  position := onScreen_start
  owed ho := absurd ho Bool.false_ne_true
  settings := by decide

theorem searchOk_parts : KeptByParts SearchOk SearchOk where
  execution := searchOk_execution
  enter _ h _ := h
  leave _ h := h
  cursor := searchOk_cursor
  bus _ _ _ h := h.of_blocks rfl rfl rfl
  cold b s := by
    rw [coldReset_eq]
    exact searchOk_reset.of_blocks rfl rfl rfl
  pin s h := h.of_idle rfl rfl rfl (by simp [assertPin, clearWorking, SearchEngine.cleared]) onScreen_start
  warm b _ _ h := h.warmReset b
  read a mem s _ h := by
    have hanswered : SearchOk (strokeAnswer a mem (chooseFreeze a s)) := h.of_blocks (by simp) (by simp) (by simp)
    exact (searchOk_tracking.copyToTracker a hanswered).of_blocks (by simp [readActive]) (by simp [readActive])
      (by simp [readActive])
  reload _ _ _ h := h.of_blocks rfl rfl rfl
  wrap _ _ _ h := h.of_blocks rfl rfl rfl
  resultOpen _ _ h := h.of_blocks rfl rfl rfl
  resultClose _ _ h := h.of_blocks rfl rfl rfl
  commitOpen _ _ h := h.of_blocks rfl rfl rfl
  commitClose _ _ h := h.of_blocks rfl rfl rfl
  peekOpen _ _ h := h.of_blocks rfl rfl rfl
  peekClose _ _ h := h.of_blocks (by simp) (by simp) (by simp)
  post _ _ _ _ h := h.of_blocks (by simp) (by simp) (by simp)
  shadow _ _ _ _ h := h.of_blocks (by simp) (by simp) (by simp)
  withdraw a s h := h.of_blocks rfl rfl (current_withdraw a s)
  takeStart f c d x s _ h := h.of_blocks (by simp) (by simp) (current_takeStart f c d x s)
  takeEnd _ _ h := h.takeEnd
  takeDiscard s _ h := by
    rw [takeDiscard, releaseFilling_eq]
    exact h.of_blocks rfl rfl (findBank_releaseBank (by decide) (by decide))
  offer l s _ h := h.of_blocks (by simp) (by simp) (current_offerEntries l (popItem s))
  startSearch _ h := h.startSearch
  examine _ _ e hsr h := h.examine hsr e
  complete _ _ hsr h := h.complete hsr
  endPass _ _ _ h := h.of_blocks (by simp) (by simp) (by simp)
end Sys2Proof.Machine

/-! PROOFS. The Band Unit and the Pattern Counters under every operation (chapters 6 and 8): the invariants BandOk and PatternOk,
and the statement on the four invariants of the blocks. -/

namespace Sys2Proof.Machine

variable {s t : State}

/-! ### The Band Unit by itself (R98, R99, R103) -/

/-- What BandOk says, of the Band Unit alone. -/
structure Band.Sound (b : Band) : Prop where
  length : b.trail.length ≤ 32
  linked : ∀ p, b.anchor = some ⟨p, true⟩ → b.trail.getLast? = some p
  anchor : ∀ a, b.anchor = some a → a.point.OnScreen
  trail : ∀ p ∈ b.trail, p.OnScreen
  commit : b.commit.point.OnScreen

theorem bandOk_iff : BandOk s ↔ s.band.Sound ∧ s.se.result.point.OnScreen :=
  ⟨fun h => ⟨⟨h.length, h.linked, h.anchor, h.trail, h.commit⟩, h.result⟩,
    fun ⟨h, hr⟩ => ⟨h.length, h.linked, h.anchor, h.trail, h.commit, hr⟩⟩

theorem BandOk.of_band (h : BandOk s) (hband : t.band.Sound) (hresult : t.se.result.point = s.se.result.point) : BandOk t :=
  bandOk_iff.mpr ⟨hband, hresult ▸ h.result⟩

theorem BandOk.of_blocks (h : BandOk s) (hband : t.band = s.band) (hresult : t.se.result.point = s.se.result.point) :
    BandOk t :=
  h.of_band (hband ▸ (bandOk_iff.mp h).1) hresult

namespace Band.Sound

variable {b : Band} (h : b.Sound)
include h

theorem with_settings (shape : BandShape) (period onLen : Nat) (march : Bool) :
    Band.Sound { b with shape := shape, period := period, onLen := onLen, march := march } :=
  ⟨h.length, h.linked, h.anchor, h.trail, h.commit⟩

theorem with_commit {c : CommitRecord} (hc : c.point.OnScreen) : Band.Sound { b with commit := c } :=
  ⟨h.length, h.linked, h.anchor, h.trail, hc⟩

theorem no_anchor : Band.Sound { b with anchor := none } :=
  ⟨h.length, nofun, nofun, h.trail, h.commit⟩

theorem withAnchor {p : Pt} (hp : p.OnScreen) : (b.withAnchor p false).Sound where
  length := h.length
  linked := by
    intro q hq
    cases hq
  anchor := by
    intro a ha
    obtain rfl : (⟨p, false⟩ : Anchor) = a := Option.some.inj ha
    exact hp
  trail := h.trail
  commit := h.commit

theorem append {p : Pt} (hp : p.OnScreen) (hroom : b.trail.length < 32) : (b.append p).Sound where
  length := by simpa using hroom
  linked := by
    intro q hq
    obtain rfl : p = q := congrArg Anchor.point (Option.some.inj hq)
    simp
  anchor := by
    intro a ha
    obtain rfl : (⟨p, true⟩ : Anchor) = a := Option.some.inj ha
    exact hp
  trail := by
    intro q hq
    obtain hq | hq := List.mem_append.mp hq
    · exact h.trail q hq
    · rwa [List.mem_singleton.mp hq]
  commit := h.commit

theorem dropNewest : b.dropNewest.Sound where
  length := by
    have hle := h.length
    simp only [bandDropNewest_keeps, List.length_dropLast]
    omega
  linked := by
    intro p hp
    obtain ⟨q, hq, hlink⟩ := Option.map_eq_some_iff.mp hp
    obtain rfl : q = p := congrArg Anchor.point hlink
    exact hq
  anchor := by
    intro a ha
    obtain ⟨q, hq, rfl⟩ := Option.map_eq_some_iff.mp ha
    exact h.trail q (List.dropLast_subset _ (List.mem_of_getLast? hq))
  trail := fun p hp => h.trail p (List.dropLast_subset _ hp)
  commit := h.commit

/-- An emptied trail keeps a FREE anchor at most. -/
theorem no_trail {a : Option Anchor} (ha : ∀ x, a = some x → b.anchor = some x ∧ x.linked = false) :
    Band.Sound { b with trail := [], anchor := a } where
  length := Nat.zero_le _
  linked := by
    intro _ hp
    cases (ha _ hp).2
  anchor := fun x hx => h.anchor x (ha x hx).1
  trail := fun _ hp => absurd hp List.not_mem_nil
  commit := h.commit

theorem act (a : PressAction) {p : Pt} (hp : p.OnScreen) : (b.act a p).Sound := by
  cases a with
  | commit =>
    unfold Band.act
    dsimp only
    split
    · next hroom => exact h.append hp hroom
    · exact h
  | anchor => exact h.withAnchor hp
  | clear => exact h.no_trail nofun

end Band.Sound

theorem freeAnchor_eq_some {a : Option Anchor} {x : Anchor} (h : freeAnchor a = some x) :
    a = some x ∧ x.linked = false := by
  obtain ⟨ha, hx⟩ := Option.filter_eq_some_iff.mp h
  exact ⟨ha, by simpa using hx⟩

/-! ### BandOk under the press actions (R100 to R104) -/

theorem BandOk.pressButton (h : BandOk s) {r : Result} (hr : r.point.OnScreen) (mask : BitVec 4) (b : Fin 4) :
    BandOk (pressButton mask r s b) := by
  have hsound := (bandOk_iff.mp h).1
  unfold Machine.pressButton
  split
  · split
    · exact h
    · next a _ =>
      refine h.of_band ?_ (by simp)
      have hacted := (hsound.act a hr).with_commit (c := commitAfter a (s.band.refuses a) b r s.band.commit) hr
      unfold pressAction
      dsimp only
      split <;> exact hacted
  · exact h

theorem BandOk.pressActions (h : BandOk s) {r : Result} (hr : r.point.OnScreen) (mask : BitVec 4) :
    BandOk (pressActions mask r s) := by
  have hfold : ∀ (l : List (Fin 4)) (u : State), BandOk u → BandOk (l.foldl (Machine.pressButton mask r) u) := by
    intro l
    induction l with
    | nil => exact fun u hu => hu
    | cons b rest ih => exact fun u hu => ih _ (hu.pressButton hr mask b)
  exact hfold _ s h

theorem onScreen_resultOf (sr : Search) (s : State) : (resultOf sr s).point.OnScreen := by
  unfold resultOf
  dsimp only
  split
  · exact onScreen_clampPt _
  · exact onScreen_clampPt _

theorem BandOk.publishAndApply (h : BandOk s) (sr : Search) : BandOk (publishAndApply sr s) := by
  have hpublished : BandOk (publish sr s) := bandOk_iff.mpr ⟨(bandOk_iff.mp h).1, onScreen_resultOf sr s⟩
  have happlied : BandOk (applyPress sr (publish sr s)) := by
    unfold applyPress
    split
    · exact hpublished.pressActions hpublished.result _
    · exact hpublished
  refine happlied.of_blocks ?_ ?_
  all_goals
    unfold Machine.publishAndApply
    dsimp only
    split <;> simp

/-! ### BandOk under every command -/

theorem onScreen_zero : (⟨0, 0⟩ : Pt).OnScreen := by decide

theorem BandOk.of_cleared (h : Cleared s t) : BandOk t := by
  refine bandOk_iff.mpr ⟨?_, ?_⟩
  · rw [h.band]
    exact ⟨Nat.zero_le _, nofun, nofun, fun _ hp => absurd hp List.not_mem_nil, onScreen_zero⟩
  · rw [h.search]
    exact onScreen_start

theorem bandOk_reset : BandOk State.reset :=
  bandOk_iff.mpr ⟨⟨Nat.zero_le _, nofun, nofun, fun _ hp => absurd hp List.not_mem_nil, onScreen_zero⟩, onScreen_start⟩

theorem BandOk.effect (h : BandOk s) (k : DirKind) (e : DirEntry) : BandOk (effectOf k e s).1 := by
  have hsound := (bandOk_iff.mp h).1
  have hset : ∀ b : Band, b.Sound → BandOk (trigger (setBandUnit b s)) := fun b hb => h.of_band (by simpa using hb) (by simp)
  cases k
  case restart => exact BandOk.of_cleared (cleared_restartReset s)
  case setAnchor => exact hset _ (hsound.withAnchor (onScreen_clampPt _))
  case clearAnchor => exact hset _ hsound.no_anchor
  case trailAppend =>
    by_cases hroom : s.band.trail.length < 32
    · rw [effectOf, applyTrailAppend_of_lt e hroom]
      exact hset _ (hsound.append (onScreen_clampPt _) hroom)
    · rwa [effectOf, applyTrailAppend_of_full e (Nat.le_of_not_lt hroom)]
  case trailDrop =>
    change BandOk (applyTrailDrop e s).1
    unfold applyTrailDrop
    split
    · exact h
    · exact hset _ hsound.dropNewest
  case trailClear => exact hset _ (hsound.no_trail fun x hx => freeAnchor_eq_some hx)
  case setBand => exact h.of_band (by simpa [effectOf, applySetBand] using hsound.with_settings _ _ _ _) (by simp [effectOf])
  all_goals exact h.of_blocks (by simp [effectOf]) (by simp [effectOf])

theorem bandOk_cursor : KeptByCursor BandOk where
  capture _ _ _ _ h := h.of_blocks rfl rfl
  ring _ _ _ _ h := h.of_blocks (by simp) (by simp)
  proximity _ _ h := h.of_blocks (by simp) (by simp)
  move _ _ h := h.of_blocks rfl rfl
  prev _ _ h := h.of_blocks rfl rfl
  motion _ h := h.of_blocks (by simp) (by simp)
  press _ _ h := h.of_blocks (by simp) (by simp)
  trigger _ h := h.of_blocks (by simp) (by simp)
  settings _ _ _ _ _ _ _ _ h := h.of_blocks rfl rfl

theorem bandOk_execution : KeptByExecution BandOk where
  effect k e _ h := h.effect k e
  outcome _ _ _ h := h.of_blocks (by simp) (by simp)
  clear _ _ h := h.of_blocks rfl rfl
  record _ _ _ h := h.of_blocks rfl rfl
  bypass _ _ h := h.of_blocks rfl rfl
  owe _ h := h.of_blocks rfl rfl

theorem bandOk_parts : KeptByParts BandOk BandOk where
  execution := bandOk_execution
  enter _ h _ := h
  leave _ h := h
  cursor := bandOk_cursor
  bus _ _ _ h := h.of_blocks rfl rfl
  cold b s := by
    rw [coldReset_eq]
    exact bandOk_reset.of_blocks rfl rfl
  pin s _ := BandOk.of_cleared ((cleared_recordAll s).setOp .transparent)
  warm b s _ _ := BandOk.of_cleared (cleared_warmReset b s)
  read _ _ _ _ h := h.of_blocks (by simp [readActive]) (by simp [readActive])
  reload _ _ _ h := h.of_blocks rfl rfl
  wrap _ _ _ h := h.of_blocks rfl rfl
  resultOpen _ _ h := h.of_blocks rfl rfl
  resultClose _ _ h := h.of_blocks rfl rfl
  commitOpen _ _ h := h.of_blocks rfl rfl
  commitClose _ _ h := h.of_blocks rfl rfl
  peekOpen _ _ h := h.of_blocks rfl rfl
  peekClose _ _ h := h.of_blocks (by simp) (by simp)
  post _ _ _ _ h := h.of_blocks (by simp) (by simp)
  shadow _ _ _ _ h := h.of_blocks (by simp) (by simp)
  withdraw _ _ h := h.of_blocks rfl rfl
  takeStart _ _ _ _ _ _ h := h.of_blocks (by simp) (by simp)
  takeEnd _ _ h := h.of_blocks (by simp) (by simp)
  takeDiscard _ _ h := h.of_blocks (by simp) (by simp)
  offer _ _ _ h := h.of_blocks (by simp) (by simp)
  startSearch _ h := h.of_blocks (by simp) (by simp)
  examine _ _ _ _ h := h.of_blocks rfl rfl
  complete _ sr _ h := (h.publishAndApply sr).of_blocks rfl rfl
  endPass _ _ _ h := h.of_blocks (by simp) (by simp)

/-! ### The Pattern Counters by themselves (R134, R136, R138) -/

/-- What PatternOk says of the channels. -/
structure Patterns.Sound (p : Patterns) : Prop where
  settings : p.a.reload ≤ 255 ∧ p.a.compare ≤ 255 ∧ p.b.reload ≤ 255 ∧ p.b.compare ≤ 255
  counts : p.a.count ≤ 255 ∧ p.b.count ≤ 255
  cascade : p.cascade = true → p.a.out = p.b.out

theorem chanStep_le {reload compare count n : Nat} {out : Bool} (hreload : reload ≤ n) (hcount : count ≤ n) :
    (chanStep reload compare count out).1 ≤ n := by
  unfold chanStep
  split
  · exact hreload
  · exact (Nat.sub_le _ _).trans hcount

namespace Patterns.Sound

variable {p : Patterns} (h : p.Sound)
include h

/-- Both halves of a 16-bit count are 8-bit values. -/
theorem setCascade {count : Nat} (hcount : count ≤ 65535) (out : Bool) : (p.setCascade count out).Sound :=
  ⟨h.settings, ⟨Nat.le_of_lt_succ (Nat.mod_lt _ (by decide)),
    (Nat.div_le_div_right hcount).trans (by decide)⟩, fun _ => rfl⟩

theorem reload16_le : p.reload16 ≤ 65535 := by
  obtain ⟨ha, -, hb, -⟩ := h.settings
  rw [Patterns.reload16]
  omega

theorem count16_le : p.count16 ≤ 65535 := by
  obtain ⟨ha, hb⟩ := h.counts
  rw [Patterns.count16]
  omega

theorem cascadeStep : p.cascadeStep.Sound := h.setCascade (chanStep_le h.reload16_le h.count16_le) _

theorem stepA : (chanStep p.a.reload p.a.compare p.a.count p.a.out).1 ≤ 255 := chanStep_le h.settings.1 h.counts.1

theorem stepB : (chanStep p.b.reload p.b.compare p.b.count p.b.out).1 ≤ 255 :=
  chanStep_le h.settings.2.2.1 h.counts.2

theorem stepChannels : p.stepChannels.Sound := by
  unfold Patterns.stepChannels
  split
  · split
    · exact h.cascadeStep
    · exact h
  · next hpair =>
    refine ⟨?_, ?_, fun hc => absurd hc hpair⟩
    · dsimp only
      split_ifs <;> exact h.settings
    · dsimp only
      split_ifs
      · exact ⟨h.stepA, h.stepB⟩
      · exact ⟨h.stepA, h.counts.2⟩
      · exact ⟨h.counts.1, h.stepB⟩
      · exact h.counts

theorem stepNamed (ch : ChannelName) : (stepNamed ch p).Sound := by
  unfold Machine.stepNamed
  split
  · exact h.cascadeStep
  · next hpair =>
    cases ch
    · exact ⟨h.settings, ⟨h.stepA, h.counts.2⟩, fun hc => absurd hc hpair⟩
    · exact ⟨h.settings, ⟨h.counts.1, h.stepB⟩, fun hc => absurd hc hpair⟩

theorem blinkAfter (e : DirEntry) : (blinkAfter e p).Sound := by
  have hclamp : ∀ v, clampNat 0 255 v ≤ 255 := by
    intro v
    rw [clampNat]
    omega
  have hsettings := And.intro (hclamp (e.argU 1)) (And.intro (hclamp (e.argU 2))
    (And.intro (hclamp (e.argU 3)) (hclamp (e.argU 4))))
  unfold Machine.blinkAfter
  dsimp only
  split
  · unfold Patterns.preset
    split
    · have hreload : (blinkSettings e p).reload16 ≤ 65535 := by
        obtain ⟨ha, -, hb, -⟩ := hsettings
        simp only [Patterns.reload16, blinkSettings]
        omega
      exact ⟨hsettings, ⟨Nat.le_of_lt_succ (Nat.mod_lt _ (by decide)),
        (Nat.div_le_div_right hreload).trans (by decide)⟩, fun _ => rfl⟩
    · next hpair => exact ⟨hsettings, ⟨hclamp _, hclamp _⟩, fun hc => absurd hc hpair⟩
  · next hkept =>
    have hmode : (blinkSettings e p).cascade = p.cascade := by
      by_contra hne
      exact hkept (.inr hne)
    unfold Patterns.keepCounts
    split
    · next hc =>
      refine ⟨hsettings, h.counts, fun _ => ?_⟩
      dsimp only [blinkSettings]
      rw [h.cascade (hmode ▸ hc)]
    · next hpair => exact ⟨hsettings, h.counts, fun hc => absurd hc hpair⟩

end Patterns.Sound

/-! ### PatternOk under every command -/

/-- PatternOk speaks of the counters and of the dash settings, whose period it bounds φ by. -/
theorem patternOk_iff : PatternOk s ↔ s.pat.Sound
    ∧ ((s.band.period = 0 ∨ (2 ≤ s.band.period ∧ s.band.period ≤ 255)) ∧ s.band.onLen ≤ 255)
    ∧ (2 ≤ s.band.period → s.pat.phase ≤ s.band.period - 1) ∧ s.pat.phase ≤ 254 :=
  ⟨fun h => ⟨⟨h.settings, h.counts, h.cascade⟩, ⟨h.period, h.onLen⟩, h.phase, h.phaseRange⟩,
    fun ⟨h, hband, hphase, hrange⟩ => ⟨h.settings, h.counts, h.cascade, hband.1, hband.2, hphase, hrange⟩⟩

/-- The dash settings stand, φ stands, and the channels are sound. -/
theorem PatternOk.of_channels (h : PatternOk s) (hpat : t.pat.Sound) (hphase : t.pat.phase = s.pat.phase)
    (hperiod : t.band.period = s.band.period) (honLen : t.band.onLen = s.band.onLen) : PatternOk t := by
  obtain ⟨-, hband, hle, hrange⟩ := patternOk_iff.mp h
  rw [patternOk_iff, hphase, hperiod, honLen]
  exact ⟨hpat, hband, hle, hrange⟩

theorem PatternOk.of_blocks (h : PatternOk s) (hpat : t.pat = s.pat) (hperiod : t.band.period = s.band.period)
    (honLen : t.band.onLen = s.band.onLen) : PatternOk t :=
  h.of_channels (hpat ▸ (patternOk_iff.mp h).1) (by rw [hpat]) hperiod honLen

theorem PatternOk.setFrozen (h : PatternOk s) (f : Bool) : PatternOk (setFrozen f s) := by
  have hsound := (patternOk_iff.mp h).1
  exact h.of_channels ⟨hsound.settings, hsound.counts, hsound.cascade⟩ rfl rfl rfl

/-- The phase steps within 0..P − 1 (R139). -/
theorem PatternOk.wrap (h : PatternOk s) (hsteps : phaseSteps s = true) :
    PatternOk { s with pat := { s.pat with phase := phaseAfter s.band.period s.pat.phase } } := by
  obtain ⟨hsound, hband, hle, hrange⟩ := patternOk_iff.mp h
  have hperiod : 2 ≤ s.band.period := of_decide_eq_true (Bool.and_eq_true_iff.mp hsteps).2
  have hlt := hle hperiod
  refine patternOk_iff.mpr ⟨⟨hsound.settings, hsound.counts, hsound.cascade⟩, hband, fun _ => ?_, ?_⟩
  all_goals
    simp only [phaseAfter]
    split <;> omega

theorem stepChannels_phase (p : Patterns) : p.stepChannels.phase = p.phase := by
  unfold Patterns.stepChannels
  split
  · split <;> rfl
  · rfl

/-- The counters after the frame-start step (R137, R139): withheld while FROZEN. -/
theorem patternStep_pat (s : State) : (patternStep s).pat =
    if s.pat.frozen then s.pat
    else if phaseSteps s then { s.pat.stepChannels with phase := phaseAfter s.band.period s.pat.phase }
    else s.pat.stepChannels := by
  unfold patternStep
  cases s.pat.frozen with
  | true => rfl
  | false =>
    simp only [Bool.false_eq_true, if_false, stepChannels_phase]
    split <;> simp

theorem PatternOk.patternStep (h : PatternOk s) : PatternOk (patternStep s) := by
  have hsound := (patternOk_iff.mp h).1
  have hstepped : PatternOk { s with pat := s.pat.stepChannels } :=
    h.of_channels hsound.stepChannels (stepChannels_phase _) rfl rfl
  have hpat := patternStep_pat s
  split_ifs at hpat with hfrozen hsteps
  · exact h.of_blocks hpat (by simp) (by simp)
  · have hwrapped := hstepped.wrap hsteps
    rw [show ({ s with pat := s.pat.stepChannels } : State).pat.phase = s.pat.phase from stepChannels_phase _] at hwrapped
    exact hwrapped.of_blocks hpat (by simp) (by simp)
  · exact hstepped.of_blocks hpat (by simp) (by simp)

theorem patternOk_tracking : KeptByTracking PatternOk where
  raise _ _ _ _ h := h.of_blocks rfl rfl rfl
  item _ _ h := h.of_blocks (by simp) (by simp) (by simp)
  marker _ _ h := h.of_blocks (by simp) (by simp) (by simp)
  track _ _ h := h.of_blocks rfl rfl rfl
  lose _ _ h := h.of_blocks rfl rfl rfl
  pattern _ h := h.patternStep

theorem PatternOk.readActive (h : PatternOk s) (a : Addr) (mem : Word) : PatternOk (readActive a mem s) := by
  have hchosen : PatternOk (chooseFreeze a s) := by
    unfold chooseFreeze
    split
    · dsimp only
      have hcounted : PatternOk { s with orderChoices := s.orderChoices + 1 } := h.of_blocks rfl rfl rfl
      split
      · exact hcounted.setFrozen true
      · exact hcounted
    · exact h
  have hanswered : PatternOk (strokeAnswer a mem (chooseFreeze a s)) := hchosen.of_blocks (by simp) (by simp) (by simp)
  have htracked := patternOk_tracking.copyToTracker a hanswered
  have hmatched : PatternOk (matchWatch1 a (matchWatch0 a (copyToTracker a (strokeAnswer a mem (chooseFreeze a s))))) :=
    htracked.of_blocks (by simp) (by simp) (by simp)
  unfold Machine.readActive matchWatches
  dsimp only
  split
  · exact hmatched.setFrozen true
  · exact hmatched

theorem periodOf_range (v : Nat) : periodOf v = 0 ∨ (2 ≤ periodOf v ∧ periodOf v ≤ 255) := by
  unfold periodOf clampNat
  split <;> omega

theorem PatternOk.applySetBand (h : PatternOk s) (e : DirEntry) : PatternOk (applySetBand e s).1 := by
  have hsound := (patternOk_iff.mp h).1
  have hperiod := periodOf_range (e.argU 1)
  have honLen : clampNat 0 255 (e.argU 2) ≤ 255 := by
    rw [clampNat]
    omega
  have hset : ∀ u : State, u.pat = { s.pat with phase := periodOf (e.argU 1) - 1 } →
      u.band.period = periodOf (e.argU 1) → u.band.onLen = clampNat 0 255 (e.argU 2) → PatternOk u := by
    intro u hpat hp ho
    rw [patternOk_iff, hpat, hp, ho]
    exact ⟨⟨hsound.settings, hsound.counts, hsound.cascade⟩, ⟨hperiod, honLen⟩, fun _ => Nat.le_refl _, by dsimp only; omega⟩
  exact hset _ (by simp [Machine.applySetBand]) (by simp [Machine.applySetBand]) (by simp [Machine.applySetBand])

theorem PatternOk.of_cleared (h : PatternOk s) (hc : Cleared s t) : PatternOk t :=
  (h.setFrozen false).of_blocks hc.pattern (by rw [hc.band]; rfl) (by rw [hc.band]; rfl)

theorem PatternOk.effect (h : PatternOk s) (k : DirKind) (e : DirEntry) : PatternOk (effectOf k e s).1 := by
  have hsound := (patternOk_iff.mp h).1
  cases k
  case configure =>
    obtain ⟨-, heq⟩ | heq := applyConfigure_cases e s
    · rw [effectOf, heq]
      exact (h.setFrozen false).of_blocks (by simp [configureWith, Machine.setFrozen]) (by simp [Machine.setFrozen])
        (by simp [Machine.setFrozen])
    · rwa [effectOf, heq]
  case restart => exact h.of_cleared (cleared_restartReset s)
  case freeze =>
    change PatternOk (applyFreeze e s).1
    unfold applyFreeze
    split
    · exact h.setFrozen true
    · exact h
  case thaw => exact h.setFrozen false
  case setBlink =>
    have hpat : (applySetBlink e s).1.pat = blinkAfter e s.pat := by
      unfold applySetBlink
      dsimp only
      split <;> simp
    exact h.of_channels (hpat ▸ hsound.blinkAfter e) (by simp [effectOf]) (by simp [effectOf]) (by simp [effectOf])
  case setBand => exact h.applySetBand e
  all_goals exact h.of_blocks (by simp [effectOf]) (by simp [effectOf]) (by simp [effectOf])

theorem patternOk_cursor : KeptByCursor PatternOk where
  capture _ _ _ _ h := h.of_blocks rfl rfl rfl
  ring _ _ _ _ h := h.of_blocks (by simp) (by simp) (by simp)
  proximity _ _ h := h.of_blocks (by simp) (by simp) (by simp)
  move _ _ h := h.of_blocks rfl rfl rfl
  prev _ _ h := h.of_blocks rfl rfl rfl
  motion _ h := h.of_blocks (by simp) (by simp) (by simp)
  press _ _ h := h.of_blocks (by simp) (by simp) (by simp)
  trigger _ h := h.of_blocks (by simp) (by simp) (by simp)
  settings _ _ _ _ _ _ _ _ h := h.of_blocks rfl rfl rfl

theorem patternOk_execution : KeptByExecution PatternOk where
  effect k e _ h := h.effect k e
  outcome _ _ _ h := h.of_blocks (by simp) (by simp) (by simp)
  clear _ _ h := h.of_blocks rfl rfl rfl
  record _ _ _ h := h.of_blocks rfl rfl rfl
  bypass _ _ h := (h.setFrozen false).of_blocks rfl rfl rfl
  owe _ h := h.of_blocks rfl rfl rfl

theorem patternOk_reset : PatternOk State.reset :=
  patternOk_iff.mpr ⟨⟨by decide, by decide, fun hc => absurd hc Bool.false_ne_true⟩, by decide, by decide, by decide⟩

theorem patternOk_parts : KeptByParts PatternOk PatternOk where
  execution := patternOk_execution
  enter _ h _ := h
  leave _ h := h
  cursor := patternOk_cursor
  bus _ _ _ h := h.of_blocks rfl rfl rfl
  cold b s := by
    rw [coldReset_eq]
    exact patternOk_reset.of_blocks rfl rfl rfl
  pin s h := h.of_cleared ((cleared_recordAll s).setOp .transparent)
  warm b s _ h := h.of_cleared (cleared_warmReset b s)
  read a mem _ _ h := h.readActive a mem
  reload ch _ _ h := h.of_channels ((patternOk_iff.mp h).1.stepNamed ch) (by simp) rfl rfl
  wrap _ _ hsteps h := h.wrap hsteps
  resultOpen _ _ h := h.of_blocks rfl rfl rfl
  resultClose _ _ h := h.of_blocks rfl rfl rfl
  commitOpen _ _ h := h.of_blocks rfl rfl rfl
  commitClose _ _ h := h.of_blocks rfl rfl rfl
  peekOpen _ _ h := h.of_blocks rfl rfl rfl
  peekClose _ _ h := h.of_blocks (by simp) (by simp) (by simp)
  post _ _ _ _ h := h.of_blocks (by simp) (by simp) (by simp)
  shadow _ _ _ _ h := h.of_blocks (by simp) (by simp) (by simp)
  withdraw _ _ h := h.of_blocks rfl rfl rfl
  takeStart _ _ _ _ _ _ h := h.of_blocks (by simp) (by simp) (by simp)
  takeEnd _ _ h := h.of_blocks (by simp) (by simp) (by simp)
  takeDiscard _ _ h := h.of_blocks (by simp) (by simp) (by simp)
  offer _ _ _ h := h.of_blocks (by simp) (by simp) (by simp)
  startSearch _ h := h.of_blocks (by simp) (by simp) (by simp)
  examine _ _ _ _ h := h.of_blocks rfl rfl rfl
  complete _ sr _ h := h.of_blocks (by simp) (by simp) (by simp)
  endPass _ _ _ h := h.of_blocks (by simp) (by simp) (by simp)

/-! ### The statement -/

/-- Settles O58: each of the four invariants is kept by the parts of every command, and so by every step. -/
theorem stepKeepsBlocks : Obligations.StepKeepsBlocks := fun _ _ hx =>
  ⟨fun h => banksOk_parts.step (fun _ _ h => h.of_banks rfl) h hx,
    fun h => bandOk_parts.step (fun _ _ h => h.of_blocks rfl rfl) h hx,
    fun h => patternOk_parts.step (fun _ _ h => h.of_blocks rfl rfl rfl) h hx,
    fun h => searchOk_parts.step (fun _ _ h => h.of_blocks rfl rfl rfl) h hx⟩
end Sys2Proof.Machine

/-! PROOFS. The tracker under a read (chapter 1): what each word taken makes of it, as a function of the tracker alone. -/

namespace Sys2Proof.Machine

variable {s t : State}

/-! ### The tracker by itself -/

/-- Loss of track (R15). -/
def Tracker.lost (k : Tracker) : Tracker :=
  { k with state := .lost, record := none, calls := [], frameOpen := false, inWindow := false }

/-- A head word taken (R2 to R10). -/
def Tracker.head (listBase a : Addr) (w : Word) (k : Tracker) : Tracker :=
  match decodeHead w with
  | .skip => { k with expected := a + 1 }
  | .move p => { k with current := p.add k.offset, origin := originAt k.inWindow a 1, expected := a + 1 }
  | .draw p => { k with current := p.add k.offset, origin := originAt k.inWindow a 1, expected := a + 1 }
  | .circle c => { k with record := some (.circle a c k.inWindow), expected := a + 1 }
  | .label n => { k with record := if n = 0 then none else some (.label a ((n + 3) / 4)), expected := a + 1 }
  | .entity attr => { k with attr := attr, expected := a + 1 }
  | .call target =>
    if k.calls.length < 8 then { k with record := some (.call a target), expected := a + 1 } else k.lost
  | .ret =>
    match k.calls with
    | [] => k.lost
    | c :: rest => { k with calls := rest, offset := c.offset, attr := c.attr, expected := c.ret }
  | .jump target => { k with expected := target }
  | .frame => { k with frameOpen := false, expected := listBase }
  | .unknown => k.lost

/-- A word of a record in progress taken, or a head word (R2 to R10). -/
def Tracker.word (listBase a : Addr) (w : Word) (k : Tracker) : Tracker :=
  match k.record with
  | none => Tracker.head listBase a w { k with lastWord := a }
  | some (.circle head c inWindow) => { k with
      lastWord := a, record := none, current := c.add k.offset, origin := originAt inWindow head 2, expected := a + 1 }
  | some (.call head target) => { k with
      lastWord := a
      record := none
      calls := ⟨head + 2, k.offset, k.attr⟩ :: k.calls
      offset := k.offset.add (callOffset w)
      expected := target }
  | some (.label head left) => { k with
      lastWord := a, record := if left ≤ 1 then none else some (.label head (left - 1)), expected := a + 1 }

/-- The tracker as a frame start leaves it to the list-base word (R13). -/
def Tracker.frameStarted (k : Tracker) (inWindow : Bool) : Tracker where
  state := .tracking
  frameOpen := true
  expected := k.expected
  record := none
  lastWord := k.lastWord
  current := ⟨0, 0⟩
  origin := none
  offset := ⟨0, 0⟩
  attr := ⟨7, false, 0⟩
  calls := []
  inWindow := inWindow
  frames := k.frames + 1

theorem loseTrack_trk (c : FaultCode) (a : Addr) (s : State) : (loseTrack c a s).trk = s.trk.lost := by
  change (restartTracker .lost (discardOpenFrame (raise c a 0 s))).trk = _
  simp only [restartTracker, discardOpenFrame_frame, raise_trk]
  rfl

theorem takeHead_trk (l a : Addr) (w : Word) (s : State) : (takeHead l a w s).trk = s.trk.head l a w := by
  unfold takeHead Tracker.head
  cases decodeHead w
  case draw =>
    unfold applyDraw
    dsimp only
    split <;> simp
  case call =>
    dsimp only
    split
    · rfl
    · exact loseTrack_trk _ _ _
  case ret =>
    dsimp only
    unfold applyReturn
    cases s.trk.calls with
    | nil => exact loseTrack_trk _ _ _
    | cons => rfl
  case frame =>
    unfold applyFrame
    simp
  case unknown => exact loseTrack_trk _ _ _
  all_goals rfl

theorem takeWord_trk (l a : Addr) (w : Word) (s : State) : (takeWord l a w s).trk = s.trk.word l a w := by
  unfold takeWord Tracker.word
  dsimp only [setTrk]
  cases s.trk.record with
  | none => exact takeHead_trk l a w _
  | some r =>
    cases r with
    | circle =>
      unfold applyCircle
      dsimp only
      split <;> simp
    | call => rfl
    | label => rfl

theorem inRegions_congr (hport : t.port = s.port) (a : Addr) : inRegions t a = inRegions s a := by
  simp only [inRegions, windowOffset, hport]

theorem frameStart_trk (l : Addr) (w : Word) (s : State) :
    (frameStart l w s).trk = (s.trk.frameStarted (inRegions s l)).word l l w := by
  unfold frameStart
  rw [takeWord_trk]
  congr 1
  simp [markInWindow, inRegions, windowOffset, Tracker.frameStarted]

theorem abortFrame_trk (s : State) : (abortFrame s).trk = s.trk := by
  unfold abortFrame
  split <;> simp

/-- What a read makes of the tracker, case by case (R1, R13 to R15). -/
theorem trackRead_trk (l a : Addr) (w : Word) (s : State) :
    (trackRead l a w s).trk = s.trk
    ∨ (a = l ∧ s.trk.state ≠ .halted ∧ (trackRead l a w s).trk = (s.trk.frameStarted (inRegions s l)).word l l w)
    ∨ (s.trk.state = .tracking ∧ a ≠ s.trk.expected ∧ (trackRead l a w s).trk = s.trk.lost)
    ∨ (s.trk.state = .tracking ∧ a ≠ l ∧ a = s.trk.expected ∧
      (trackRead l a w s).trk = Tracker.word l a w { s.trk with inWindow := inRegions s a }) := by
  have hstart : ∀ u : State, u.trk = s.trk → u.port = s.port →
      (frameStart l w u).trk = (s.trk.frameStarted (inRegions s l)).word l l w := by
    intro u htrk hport
    rw [frameStart_trk, htrk, inRegions_congr hport]
  unfold trackRead
  split
  · exact .inl rfl
  · next hstate =>
    split
    · next ha => exact .inr (.inl ⟨ha, by rw [hstate]; decide, hstart s rfl rfl⟩)
    · exact .inl rfl
  · next hstate =>
    split
    · next ha => exact .inr (.inl ⟨ha, by rw [hstate]; decide, hstart s rfl rfl⟩)
    · exact .inl rfl
  · next hstate =>
    split
    · next ha => exact .inr (.inl ⟨ha, by rw [hstate]; decide, hstart _ (abortFrame_trk s) (by simp)⟩)
    · next ha =>
      split
      · next he => exact .inr (.inr (.inl ⟨hstate, he, loseTrack_trk _ _ s⟩))
      · next he => exact .inr (.inr (.inr ⟨hstate, ha, not_not.mp he, takeWord_trk l a w _⟩))

/-! ### The call stack and the modes of the tracker (R8, R12, R15) -/

/-- At most 8 calls are open, with a call in progress counted (R8). -/
structure Tracker.CallsFit (k : Tracker) : Prop where
  calls : k.calls.length ≤ 8
  openCall : ∀ a t, k.record = some (.call a t) → k.calls.length < 8

/-- Only a TRACKING tracker has a frame open, a call open, a record in progress or IN-WINDOW set (R12, R15). -/
def Tracker.Settled (k : Tracker) : Prop :=
  k.state ≠ .tracking → k.frameOpen = false ∧ k.calls = [] ∧ k.record = none ∧ k.inWindow = false

theorem Tracker.CallsFit.of_empty {k : Tracker} (hc : k.calls = []) (hr : k.record = none) : k.CallsFit :=
  ⟨by rw [hc]; exact Nat.zero_le _, fun a t h => by rw [hr] at h; cases h⟩

theorem Tracker.CallsFit.of_record {k : Tracker} (h : k.calls.length ≤ 8) (hr : ∀ a t, k.record ≠ some (.call a t)) :
    k.CallsFit :=
  ⟨h, fun a t hat => absurd hat (hr a t)⟩

theorem Tracker.CallsFit.head {k : Tracker} (h : k.CallsFit) (hr : k.record = none) (l a : Addr) (w : Word) :
    (k.head l a w).CallsFit := by
  have hnone : ∀ a t, k.record ≠ some (.call a t) := fun a t hat => by rw [hr] at hat; cases hat
  unfold Tracker.head
  split
  case h_5 =>
    refine .of_record h.calls fun a t hat => ?_
    dsimp only at hat
    split at hat <;> cases hat
  case h_4 => exact .of_record h.calls fun a t hat => by cases hat
  case h_7 =>
    split
    · next hroom => exact ⟨hroom.le, fun _ _ _ => hroom⟩
    · exact .of_empty rfl rfl
  case h_8 =>
    split
    · exact .of_empty rfl rfl
    · next c rest hcalls =>
      have hlength := h.calls
      rw [hcalls, List.length_cons] at hlength
      exact .of_record (Nat.le_of_succ_le hlength) hnone
  case h_11 => exact .of_empty rfl rfl
  all_goals exact .of_record h.calls hnone

theorem Tracker.CallsFit.word {k : Tracker} (h : k.CallsFit) (l a : Addr) (w : Word) : (k.word l a w).CallsFit := by
  unfold Tracker.word
  split
  · next hr => exact Tracker.CallsFit.head (k := { k with lastWord := a }) ⟨h.calls, h.openCall⟩ hr l a w
  · exact .of_record h.calls fun a t hat => by cases hat
  · next hr => exact .of_record (h.openCall _ _ hr) fun a t hat => by cases hat
  · refine .of_record h.calls fun a t hat => ?_
    dsimp only at hat
    split at hat <;> cases hat

theorem Tracker.lost_settled (k : Tracker) : k.lost.Settled := fun _ => ⟨rfl, rfl, rfl, rfl⟩

theorem Tracker.lost_ne_halted (k : Tracker) : k.lost.state ≠ .halted := fun h => by cases h

theorem Tracker.settled_of_tracking {k : Tracker} (h : k.state = .tracking) : k.Settled := fun hn => absurd h hn

theorem Tracker.head_state {k : Tracker} (h : k.state = .tracking) (l a : Addr) (w : Word) :
    (k.head l a w).state = .tracking ∨ k.head l a w = k.lost := by
  unfold Tracker.head
  split
  case h_7 =>
    split
    · exact .inl h
    · exact .inr rfl
  case h_8 =>
    split
    · exact .inr rfl
    · exact .inl h
  case h_11 => exact .inr rfl
  all_goals exact .inl h

theorem Tracker.word_settled {k : Tracker} (h : k.state = .tracking) (l a : Addr) (w : Word) :
    (k.word l a w).Settled ∧ (k.word l a w).state ≠ .halted := by
  have htracking : ∀ x : Tracker, x.state = .tracking → x.Settled ∧ x.state ≠ .halted := by
    intro x hx
    exact ⟨settled_of_tracking hx, by rw [hx]; decide⟩
  unfold Tracker.word
  split
  · obtain hstate | hlost := Tracker.head_state (k := { k with lastWord := a }) h l a w
    · exact htracking _ hstate
    · rw [hlost]
      exact ⟨lost_settled _, lost_ne_halted _⟩
  all_goals exact htracking _ h

theorem trackRead_callsFit (h : s.trk.CallsFit) (l a : Addr) (w : Word) : (trackRead l a w s).trk.CallsFit := by
  obtain heq | ⟨-, -, heq⟩ | ⟨-, -, heq⟩ | ⟨-, -, -, heq⟩ := trackRead_trk l a w s
  · rwa [heq]
  · rw [heq]
    exact Tracker.CallsFit.word (.of_empty rfl rfl) l l w
  · rw [heq]
    exact .of_empty rfl rfl
  · rw [heq]
    exact Tracker.CallsFit.word (k := { s.trk with inWindow := inRegions s a }) ⟨h.calls, h.openCall⟩ l a w

theorem trackRead_settled (h : s.trk.Settled) (hstate : s.trk.state ≠ .halted) (l a : Addr) (w : Word) :
    (trackRead l a w s).trk.Settled ∧ (trackRead l a w s).trk.state ≠ .halted := by
  obtain heq | ⟨-, -, heq⟩ | ⟨-, -, heq⟩ | ⟨htracking, -, -, heq⟩ := trackRead_trk l a w s
  · rw [heq]
    exact ⟨h, hstate⟩
  · rw [heq]
    exact Tracker.word_settled rfl l l w
  · rw [heq]
    exact ⟨Tracker.lost_settled _, Tracker.lost_ne_halted _⟩
  · rw [heq]
    exact Tracker.word_settled (k := { s.trk with inWindow := inRegions s a }) htracking l a w
end Sys2Proof.Machine

/-! PROOFS. Queues, pointers and the region map under every operation (chapters 1, 2, 5, 9, 10, 11): the invariant CapacityOk. -/

namespace Sys2Proof.Machine

variable {s t : State}

/-! ### CapacityOk by what it speaks of -/

/-- Each clause of CapacityOk carries over by itself; what an operation leaves alone needs no word. -/
theorem CapacityOk.of (h : CapacityOk s)
    (geometry : geometryCount s.hv.queue ≤ 16 → geometryCount t.hv.queue ≤ 16 := by simp)
    (presses : s.se.presses.length ≤ 4 → t.se.presses.length ≤ 4 := by simp)
    (directives : s.dir.queue.length ≤ 16 → t.dir.queue.length ≤ 16 := by simp)
    (continuation : t.dir.continuation = s.dir.continuation := by simp)
    (peek : t.pane.peek = s.pane.peek := by simp)
    (peekLatch : t.pane.peekLatch = s.pane.peekLatch := by simp)
    (calls : s.trk.CallsFit → t.trk.CallsFit := by simp)
    (config : t.port.config = s.port.config := by simp)
    (strap : t.port.strap = s.port.strap := by simp)
    (ring : t.cu.ring = s.cu.ring := by simp) : CapacityOk t :=
  have hcalls := calls ⟨h.calls, h.openCall⟩
  { geometry := geometry h.geometry
    presses := presses h.presses
    directives := directives h.directives
    continuation := continuation ▸ h.continuation
    peek := peek ▸ h.peek
    peekCopy := peekLatch ▸ h.peekCopy
    calls := hcalls.calls
    openCall := hcalls.openCall
    map := by rw [config, strap]; exact h.map
    ring := by rw [config, ring]; exact h.ring }

/-! ### The harvest queue (R22 to R24) -/

theorem geometryCount_append (p q : List QItem) : geometryCount (p ++ q) = geometryCount p + geometryCount q :=
  List.countP_append

theorem geometryCount_singleton_le (it : QItem) : geometryCount [it] ≤ 1 := List.countP_le_length

/-- The note of a drop on a START changes no geometry item. -/
theorem geometryCount_noteDropRev (q : List QItem) :
    ∀ r, noteDropRev q = some r → geometryCount r.1 = geometryCount q := by
  have hrest : ∀ (it : QItem) (rest : List QItem) (r : List QItem × BitVec 32 × Bool),
      (∀ r, noteDropRev rest = some r → geometryCount r.1 = geometryCount rest) →
      ((noteDropRev rest).map fun x => (it :: x.1, x.2)) = some r → geometryCount r.1 = geometryCount (it :: rest) := by
    intro it rest r ih hr
    obtain ⟨x, hx, rfl⟩ := Option.map_eq_some_iff.mp hr
    have hcount : List.countP QItem.isGeometry x.1 = List.countP QItem.isGeometry rest := ih x hx
    simp only [geometryCount, List.countP_cons, hcount]
  induction q with
  | nil => exact fun r hr => nomatch hr
  | cons it rest ih =>
    intro r hr
    cases it
    case start => cases hr; rfl
    all_goals exact hrest _ rest r ih hr

theorem geometryCount_recordDrop_le (before after : List QItem) (s : State) :
    geometryCount (recordDrop before after s).hv.queue ≤ geometryCount before + geometryCount after := by
  unfold recordDrop
  split
  · next rev frame first hnote =>
    have hsame := geometryCount_noteDropRev _ _ hnote
    have hreverse : ∀ l : List QItem, geometryCount l.reverse = geometryCount l := fun l => List.countP_reverse
    simp only [raiseOverrun_frame, geometryCount_append, hreverse] at hsame ⊢
    omega
  · dsimp only
    split
    · exact (geometryCount_append before after).le
    · simp [geometryCount_append]

/-- The markers after the newest geometry item hold none, and that item itself is gone (R23). -/
theorem geometryCount_splitNewest (q : List QItem) :
    geometryCount (splitNewest q).1 + geometryCount (splitNewest q).2 = geometryCount q - 1 := by
  have hmarkers : ∀ l : List QItem, geometryCount (l.takeWhile fun x => !x.isGeometry) = 0 := by
    intro l
    refine List.countP_eq_zero.mpr fun x hx => ?_
    simpa using List.mem_takeWhile_imp hx
  have hnewest : ∀ l : List QItem, geometryCount (l.dropWhile fun x => !x.isGeometry).tail = geometryCount l - 1 := by
    intro l
    induction l with
    | nil => rfl
    | cons it rest ih =>
      cases hgeometry : it.isGeometry with
      | true => simp [hgeometry, geometryCount]
      | false => simpa [List.dropWhile_cons, hgeometry, geometryCount, List.countP_cons] using ih
  have hreverse : ∀ l : List QItem, geometryCount l.reverse = geometryCount l := fun l => List.countP_reverse
  simp only [splitNewest, hreverse, hmarkers, hnewest, Nat.add_zero]

theorem geometryCount_queueItem (it : QItem) (s : State) (h : geometryCount s.hv.queue ≤ 16) :
    geometryCount (queueItem it s).hv.queue ≤ 16 := by
  obtain ⟨hroom, heq⟩ | ⟨-, heq⟩ := queueItem_cases s it
  · rw [heq]
    have hone := geometryCount_singleton_le it
    simp only [geometryCount_append]
    omega
  · rw [heq]
    exact (geometryCount_recordDrop_le _ _ s).trans h

theorem geometryCount_queueMarker (it : QItem) (s : State) (h : geometryCount s.hv.queue ≤ 16) :
    geometryCount (queueMarker it s).hv.queue ≤ 16 := by
  have hone := geometryCount_singleton_le it
  unfold queueMarker
  split
  · simp only [geometryCount_append]
    omega
  · have hdrop := geometryCount_recordDrop_le (splitNewest s.hv.queue).1 ((splitNewest s.hv.queue).2 ++ [it]) s
    have hsplit := geometryCount_splitNewest s.hv.queue
    rw [geometryCount_append] at hdrop
    omega

/-- The harvest queue has room for its geometry items, whatever the tracker makes of a read. -/
theorem geometry_tracking : KeptByTracking fun u => geometryCount u.hv.queue ≤ 16 where
  raise _ _ _ _ h := h
  item it s h := geometryCount_queueItem it s h
  marker it s h := geometryCount_queueMarker it s h
  track _ _ h := h
  lose _ _ h := h
  pattern _ h := by simpa using h

theorem CapacityOk.readActive (h : CapacityOk s) (a : Addr) (mem : Word) : CapacityOk (readActive a mem s) := by
  have hanswered : CapacityOk (strokeAnswer a mem (chooseFreeze a s)) := h.of
  have htracked : CapacityOk (copyToTracker a (strokeAnswer a mem (chooseFreeze a s))) := by
    refine hanswered.of (geometry := geometry_tracking.copyToTracker a) (calls := fun hcalls => ?_)
    unfold copyToTracker
    split
    · exact hcalls
    · exact trackRead_callsFit hcalls _ _ _
  unfold Machine.readActive
  exact htracked.of

/-- A queue that only loses entries stays within its capacity. -/
theorem geometryCount_tail (q : List QItem) : geometryCount q.tail ≤ geometryCount q :=
  List.Sublist.countP_le (List.tail_sublist q)

theorem takeEnd_queue (s : State) : (takeEnd s).hv.queue = s.hv.queue.tail := by
  have hpromote : ∀ u : State, (promote u).hv.queue = u.hv.queue := by
    intro u
    rw [promote_eq]
    split <;> simp
  obtain ⟨-, heq⟩ | ⟨i, u, -, rfl, heq⟩ := takeEnd_cases s
  · rw [heq]
    simp
  · rw [heq]
    split <;> simp [hpromote]

theorem offerEntry_queue (e : Entry) (s : State) : (offerEntry e s).hv.queue = s.hv.queue := by
  unfold offerEntry
  split
  · rfl
  · dsimp only
    split_ifs <;> rfl

theorem offerEntries_queue (l : List Entry) (s : State) : (offerEntries l s).hv.queue = s.hv.queue := by
  induction l generalizing s with
  | nil => rfl
  | cons e rest ih => exact (ih (offerEntry e s)).trans (offerEntry_queue e s)

/-! ### Requests, the peek pointer and the ring (R43, R85, R173) -/

theorem filePress_length (p : Press) (s : State) (h : s.se.presses.length ≤ 4) :
    (filePress p s).se.presses.length ≤ 4 := by
  obtain ⟨-, heq⟩ | ⟨-, hroom, heq⟩ | ⟨-, -, heq⟩ := filePress_cases s p
  · rwa [heq]
  · rw [heq]
    simpa using hroom
  · rw [heq]
    simpa using h

theorem startSearch_length (s : State) (h : s.se.presses.length ≤ 4) : (startSearch s).se.presses.length ≤ 4 := by
  obtain ⟨-, heq⟩ | ⟨r, rest, m, -, hrequest, heq⟩ := startSearch_cases s
  · rwa [heq]
  · rw [heq]
    obtain ⟨p, hpresses, -⟩ | ⟨-, -, -, rfl, -⟩ := hrequest
    · rw [hpresses, List.length_cons] at h
      exact Nat.le_of_succ_le h
    · exact Nat.zero_le _

theorem CapacityOk.promote (h : CapacityOk s) : CapacityOk (promote s) := by
  have hzero : CapacityOk { s with pane := { s.pane with peek := 0, peekLatch := none } } :=
    { h with peek := Nat.zero_le _, peekCopy := fun p hp => nomatch hp }
  rw [promote_eq]
  split
  · exact h
  · exact hzero.of

theorem CapacityOk.takeEnd (h : CapacityOk s) : CapacityOk (takeEnd s) := by
  have hstarted : CapacityOk (startOwedSearch s) := by
    obtain ⟨-, heq⟩ | ⟨-, heq⟩ := startOwedSearch_cases s
    · rwa [heq]
    · exact heq ▸ h.of (presses := startSearch_length s)
  have hpopped : CapacityOk (popItem (startOwedSearch s)) :=
    hstarted.of (geometry := (geometryCount_tail _).trans)
  obtain ⟨-, heq⟩ | ⟨i, u, -, rfl, heq⟩ := takeEnd_cases s
  · rwa [heq]
  · have hready : CapacityOk (setBanks (restateBank .ready i (releaseBank .ready s.hv.banks)) (popItem (startOwedSearch s))) :=
      hpopped.of
    rw [heq]
    split
    · exact hready.promote
    · exact hready

theorem CapacityOk.ringCheck (h : CapacityOk s) {m : RegionMap} (hm : s.port.config = some m) (r : Nat) :
    CapacityOk (ringCheck m.records r s) := by
  obtain ⟨-, -, -, hfour, hmost, -⟩ := (h.map m hm).1
  have hlt : (r + 1) % m.records < m.records := Nat.mod_lt _ (by omega)
  have hset : ∀ u : State, CapacityOk u → u.port = s.port →
      CapacityOk (setCu { u.cu with ring := (r + 1) % m.records } u) := by
    intro u hu hport
    refine { hu with ring := ⟨lt_of_lt_of_le hlt hmost, fun m' hm' => ?_⟩ }
    rw [setCu_port, hport, hm] at hm'
    exact Option.some.inj hm' ▸ hlt
  unfold Machine.ringCheck
  dsimp only
  split
  · exact hset s h rfl
  · exact hset _ h.of rfl

/-! ### What the resets and CONFIGURE leave -/

/-- Every queue and pointer is back at its reset value; a map held is one that CONFIGURE forms and places. -/
theorem CapacityOk.of_fresh (hqueue : t.hv.queue = []) (hpresses : t.se.presses = []) (hdir : t.dir.queue = [])
    (hcontinuation : t.dir.continuation = none) (hpeek : t.pane.peek = 0) (hlatch : t.pane.peekLatch = none)
    (hcalls : t.trk.calls = []) (hrecord : t.trk.record = none) (hring : t.cu.ring = 0)
    (hmap : ∀ m, t.port.config = some m → m.Formed ∧ m.Fits t.port.strap) : CapacityOk t where
  geometry := by rw [hqueue]; exact Nat.zero_le _
  presses := by rw [hpresses]; exact Nat.zero_le _
  directives := by rw [hdir]; exact Nat.zero_le _
  continuation := fun k hk => by rw [hcontinuation] at hk; cases hk
  peek := by rw [hpeek]; exact Nat.zero_le _
  peekCopy := fun p hp => by rw [hlatch] at hp; cases hp
  calls := by rw [hcalls]; exact Nat.zero_le _
  openCall := fun a t h => by rw [hrecord] at h; cases h
  map := hmap
  ring := by
    rw [hring]
    refine ⟨by decide, fun m hm => ?_⟩
    obtain ⟨-, -, -, hfour, -⟩ := (hmap m hm).1
    omega

theorem CapacityOk.of_cleared (hc : Cleared s t) (hcalls : t.trk.calls = []) (hrecord : t.trk.record = none)
    (hmap : ∀ m, t.port.config = some m → m.Formed ∧ m.Fits t.port.strap) : CapacityOk t :=
  .of_fresh (by rw [hc.harvest]) (by rw [hc.search]) hc.shadow.2.1 hc.shadow.2.2 hc.pane.2.2.2.2 hc.pane.2.2.2.1
    hcalls hrecord (by rw [hc.cursor]) hmap

theorem enterConfigured_calls (s : State) :
    (enterConfigured s).trk.calls = s.trk.calls ∧ (enterConfigured s).trk.record = s.trk.record := by
  obtain ⟨-, h⟩ | ⟨m, -, h⟩ := enterConfigured_cases s
  all_goals
    rw [h]
    simp

theorem enterByStrap_calls (s : State) :
    (enterByStrap s).trk.calls = s.trk.calls ∧ (enterByStrap s).trk.record = s.trk.record := by
  obtain ⟨-, h⟩ | ⟨-, h⟩ := enterByStrap_cases s
  · rw [h]
    exact ⟨rfl, rfl⟩
  · rw [h]
    exact enterConfigured_calls s

theorem CapacityOk.warmReset (h : CapacityOk s) (b : BitVec 6) : CapacityOk (warmReset b s) := by
  obtain ⟨hcalls, hrecord⟩ := enterByStrap_calls (releasedPin b s)
  refine .of_cleared (cleared_warmReset b s) hcalls hrecord ?_
  intro m hm
  rw [warmReset_eq, enterByStrap_frame.2.1] at hm
  rw [warmReset_eq, enterByStrap_frame.1]
  change checkConfig b s.port.config = some m at hm
  change m.Formed ∧ m.Fits b
  cases hold : s.port.config with
  | none =>
    rw [hold] at hm
    cases hm
  | some m' =>
    obtain ⟨hformed, hfits⟩ := h.map m' hold
    rw [hold] at hm
    by_cases hmeets : m'.Meets b
    · rw [checkConfig_of_meets hformed hmeets] at hm
      cases hm
    · rw [checkConfig_of_free hformed hmeets] at hm
      exact Option.some.inj hm ▸ ⟨hformed, hfits.of_not_meets hmeets⟩

theorem CapacityOk.restartReset (h : CapacityOk s) : CapacityOk (restartReset s) := by
  obtain ⟨hcalls, hrecord⟩ := enterConfigured_calls (restarted s)
  refine .of_cleared (cleared_restartReset s) hcalls hrecord ?_
  rw [restartReset_eq, enterConfigured_frame.2.1, enterConfigured_frame.1]
  exact h.map

theorem CapacityOk.configureWith (h : CapacityOk s) {m : RegionMap} (hformed : m.Formed) (hfits : m.Fits s.port.strap) :
    CapacityOk (configureWith m s) := by
  have hcleared : CapacityOk { s with
      hv := Harvester.emptied
      se := { s.se with presses := [] }
      trk := { s.trk with record := none, calls := [] }
      cu := { s.cu with ring := 0 }
      port := { s.port with config := some m } } :=
    { h with
      geometry := Nat.zero_le _
      presses := Nat.zero_le _
      calls := Nat.zero_le _
      openCall := fun a t hat => nomatch hat
      map := fun m' hm' => Option.some.inj hm' ▸ ⟨hformed, hfits⟩
      ring := ⟨(by decide : 0 < 32), fun m' hm' => by
        obtain ⟨-, -, -, hfour, -⟩ := hformed
        cases hm'
        exact Nat.lt_of_lt_of_le (by decide : 0 < 4) hfour⟩ }
  unfold Machine.configureWith
  exact hcleared.of (calls := fun _ => .of_empty (by simp) (by simp)) (config := by simp) (ring := by simp)

/-! ### CapacityOk under every command -/

theorem CapacityOk.with_continuation (h : CapacityOk s) {k : Nat} (hk : 1 ≤ k ∧ k ≤ 16) :
    CapacityOk { s with dir := { s.dir with continuation := some k } } :=
  { h with continuation := fun _ hk' => Option.some.inj hk' ▸ hk }

theorem CapacityOk.loadTable (h : CapacityOk s) (l : List Pt) {at0 count : Nat} (hcount : 1 ≤ count)
    (hfits : at0 + count ≤ 16) : CapacityOk (loadTable l at0 count s) := by
  have hset : CapacityOk (setSe { s.se with dirs := writeDirections (l.take count) at0 s.se.dirs } s) := h.of
  exact hset.with_continuation ⟨by omega, hfits⟩

theorem clampNat_le (lo hi v : Nat) (h : lo ≤ hi) : lo ≤ clampNat lo hi v ∧ clampNat lo hi v ≤ hi := by
  rw [clampNat]
  omega

theorem capacityOk_cursor : KeptByCursor CapacityOk where
  capture _ _ _ _ h := h.of
  ring _ r _ hm h := h.ringCheck hm r
  proximity _ _ h := h.of
  move _ _ h := h.of
  prev _ _ h := h.of
  motion _ h := h.of
  press _ s h := h.of (presses := filePress_length _ s)
  trigger _ h := h.of
  settings _ _ _ _ _ _ _ _ h := h.of

theorem CapacityOk.effect (h : CapacityOk s) (k : DirKind) (e : DirEntry) : CapacityOk (effectOf k e s).1 := by
  cases k
  case configure =>
    obtain ⟨hfits, heq⟩ | heq := applyConfigure_cases e s
    · exact heq ▸ h.configureWith (mapOf_formed e) hfits
    · exact heq.symm ▸ h
  case restart => exact h.restartReset
  case resume =>
    change CapacityOk (applyResume e s).1
    unfold applyResume
    split
    · exact h.of (calls := fun _ => .of_empty (by simp) (by simp))
    · exact h
  case setInput => exact capacityOk_cursor.applySetInput e h
  case setCursor => exact capacityOk_cursor.applySetCursor e h
  case setButtons => exact capacityOk_cursor.applySetButtons e h
  case loadDirections =>
    change CapacityOk (applyLoadDirections e s).1
    unfold applyLoadDirections
    dsimp only
    split
    · exact h
    · next hfits => exact h.loadTable _ (clampNat_le 1 5 _ (by decide)).1 (Nat.le_of_not_lt hfits)
  case continueDirections =>
    change CapacityOk (applyContinueDirections e s).1
    unfold applyContinueDirections
    dsimp only
    split
    · exact h
    · split
      · exact h
      · next hfits => exact h.loadTable _ (clampNat_le 1 6 _ (by decide)).1 (Nat.le_of_not_lt hfits)
  case setPeek =>
    exact { h with
      peek := ((clampNat_le 0 1023 _ (by decide)).2).trans (by decide)
      peekCopy := fun p hp => nomatch hp }
  all_goals
    exact h.of (by simp [effectOf]) (by simp [effectOf]) (by simp [effectOf]) (by simp [effectOf]) (by simp [effectOf])
      (by simp [effectOf]) (by simp [effectOf]) (by simp [effectOf]) (by simp [effectOf]) (by simp [effectOf])

theorem leaveQueue_queue (s : State) : (leaveQueue s).dir = { s.dir with queue := s.dir.queue.tail } := by
  unfold leaveQueue
  dsimp only
  split <;> rfl

theorem capacityOk_execution : KeptByExecution CapacityOk where
  effect k e _ h := h.effect k e
  outcome e r s h := by
    refine h.of (directives := fun hd => ?_)
    rw [leaveQueue_queue]
    simpa using hd.trans (Nat.le_succ _)
  clear _ _ h := h.of
  record _ _ _ h := h.of
  bypass _ _ h := h.of (geometry := fun _ => Nat.zero_le _) (presses := fun _ => Nat.zero_le _)
    (calls := fun _ => .of_empty rfl rfl) (config := rfl) (strap := rfl)
  owe _ h := h.of

/-- An opening or closing of the result or the commit latch leaves the peek window (R171, R172). -/
theorem CapacityOk.of_pane (h : CapacityOk s) {x : StatusPane} (hpeek : x.peek = s.pane.peek)
    (hlatch : x.peekLatch = s.pane.peekLatch) : CapacityOk { s with pane := x } := h.of (peek := hpeek) (peekLatch := hlatch)

theorem capacityOk_parts : KeptByParts CapacityOk CapacityOk where
  execution := capacityOk_execution
  enter _ h _ := h
  leave _ h := h
  cursor := capacityOk_cursor
  bus _ _ _ h := h.of
  cold b s := by
    rw [coldReset_eq]
    exact .of_fresh rfl rfl rfl rfl rfl rfl rfl rfl rfl fun m hm => nomatch hm
  pin s h := .of_cleared ((cleared_recordAll s).setOp .transparent) rfl rfl (by simpa [assertPin, clearWorking] using h.map)
  warm b _ _ h := h.warmReset b
  read a mem _ _ h := h.readActive a mem
  reload _ _ _ h := h.of
  wrap _ _ _ h := h.of
  resultOpen _ _ h := h.of_pane rfl rfl
  resultClose _ _ h := h.of_pane rfl rfl
  commitOpen _ _ h := h.of_pane rfl rfl
  commitClose _ _ h := h.of_pane rfl rfl
  peekOpen s _ h := { h with peekCopy := fun p hp => Option.some.inj hp ▸ h.peek }
  peekClose s _ h := by
    unfold closePeekLatch
    split
    · exact h
    · exact { h with peek := Nat.min_le_left _ _, peekCopy := fun p hp => nomatch hp }
  post slot w s _ h := by
    unfold postSlot
    dsimp only
    split
    · exact h
    · split
      · next hroom => exact h.of (directives := fun _ => by simpa using hroom)
      · exact h.of
  shadow _ _ _ _ h := h.of
  withdraw _ _ h := h.of (geometry := (List.Sublist.countP_le List.filter_sublist).trans)
  takeStart f c d x s _ h := by
    refine h.of (geometry := fun hg => ?_)
    rw [takeStart_eq]
    exact (geometryCount_tail _).trans hg
  takeEnd _ _ h := h.takeEnd
  takeDiscard s _ h := by
    refine h.of (geometry := fun hg => ?_)
    rw [takeDiscard, releaseFilling_eq]
    exact (geometryCount_tail _).trans hg
  offer l s _ h := by
    refine h.of (geometry := fun hg => ?_)
    rw [offerEntries_queue]
    exact (geometryCount_tail _).trans hg
  startSearch s h := h.of (presses := startSearch_length s)
  examine _ _ _ _ h := h.of
  complete s sr _ h := by
    have hfiled : ∀ u : State, CapacityOk u → CapacityOk (if u.se.result.withdrawn then fileMotion u else u) := by
      intro u hu
      split
      · exact hu.of
      · exact hu
    have happlied : CapacityOk (applyPress sr (publish sr s)) := h.of
    have hdone : CapacityOk (publishAndApply sr s) := capacityOk_cursor.trigger _ (hfiled _ happlied).promote
    exact hdone.of
  endPass _ _ _ h := h.of
end Sys2Proof.Machine

/-! PROOFS. What each operating state says of the blocks, under every operation (chapter 9): the invariant ModeOk, and the statement
on capacities and modes. -/

namespace Sys2Proof.Machine

variable {s t : State}

/-! ### ModeOk by what it speaks of -/

/-- Nothing is harvested, searched, requested, composed or frozen, and the tracker is HALTED. -/
def Dormant (s : State) : Prop :=
  s.hv = Harvester.emptied ∧ s.se.presses = [] ∧ s.se.motion = false ∧ s.se.search = none ∧ s.comp = s.comp.cleared
    ∧ s.pat.frozen = false ∧ s.trk.state = .halted

/-- A part that is ACTIVE stays so, with its configuration; only the tracker can break what that says. -/
theorem ModeOk.of_active (h : ModeOk s) (hop : s.port.op = .active)
    (port : t.port = s.port := by simp)
    (trk : t.trk.Settled ∧ t.trk.state ≠ .halted) : ModeOk t where
  outside := fun hn => absurd (port ▸ hop) hn
  active := fun _ => ⟨trk.2, port ▸ (h.active hop).2⟩
  passive := fun hp => by rw [port, hop] at hp; cases hp
  bypass := fun hp => by rw [port, hop] at hp; cases hp
  disabled := fun hp => by rw [port, hop] at hp; cases hp
  silent := fun hp => by rw [port, hop] at hp; obtain hp | hp := hp <;> cases hp
  tracker := trk.1

/-- The same where the operation leaves the tracker alone. -/
theorem ModeOk.of_active_trk (h : ModeOk s) (hop : s.port.op = .active)
    (port : t.port = s.port := by simp) (trk : t.trk = s.trk := by simp) : ModeOk t :=
  h.of_active hop port ⟨by rw [trk]; exact h.tracker, by rw [trk]; exact (h.active hop).1⟩

/-- Where the port and the tracker stand, only a part that is not ACTIVE has more to keep. -/
theorem ModeOk.of_port (h : ModeOk s) (port : t.port = s.port := by simp) (trk : t.trk = s.trk := by simp)
    (dormant : s.port.op ≠ .active → Dormant s → Dormant t := by simp [Dormant])
    (silent : ¬ Observes s → t.pane = s.pane ∧ t.dir.queue = s.dir.queue ∧ t.flt.raised = s.flt.raised := by simp) :
    ModeOk t where
  outside := fun hn => dormant (port ▸ hn) (h.outside (port ▸ hn))
  active := by rw [port, trk]; exact h.active
  passive := by rw [port]; exact h.passive
  bypass := by rw [port]; exact h.bypass
  disabled := by rw [port]; exact h.disabled
  silent := fun hp => by
    rw [port] at hp
    have hn : ¬ Observes s := by
      rintro (ho | ho | ho) <;> rw [ho] at hp <;> obtain hp | hp := hp <;> cases hp
    obtain ⟨hpane, hqueue, hraised⟩ := silent hn
    rw [hpane, hqueue, hraised]
    exact h.silent hp
  tracker := by rw [trk]; exact h.tracker

theorem observes_or (s : State) : Observes s ∨ s.port.op = .disabled ∨ s.port.op = .transparent := by
  unfold Observes
  cases s.port.op <;> simp

/-- ModeOk where the part takes writes, answers the pane and executes directives. -/
structure ModeObserved (s : State) : Prop where
  mode : ModeOk s
  observes : Observes s

theorem ModeObserved.of (h : ModeObserved s) (port : t.port = s.port := by simp) (trk : t.trk = s.trk := by simp)
    (dormant : s.port.op ≠ .active → Dormant s → Dormant t := by simp [Dormant]) : ModeObserved t where
  mode := h.mode.of_port port trk dormant (fun hn => absurd h.observes hn)
  observes := by rw [Observes, port]; exact h.observes

/-- Outside ACTIVE an operation does nothing at all. -/
theorem ModeObserved.of_idle (h : ModeObserved s) (hidle : s.port.op ≠ .active → t = s)
    (port : t.port = s.port := by simp) (trk : t.trk = s.trk := by simp) : ModeObserved t :=
  h.of port trk (fun hn hd => hidle hn ▸ hd)

/-- A configuration in the observing states comes with a placed strap block. -/
theorem ModeObserved.strap (h : ModeObserved s) : s.port.strap ≠ 63#6 := by
  obtain hop | hop | hop := h.observes
  · exact (h.mode.passive hop).2
  · exact (h.mode.active hop).2.2
  · exact (h.mode.bypass hop).2

/-- The part is ACTIVE with a tracker that waits for a frame (R117, R155, R183). -/
theorem ModeObserved.of_started (hop : t.port.op = .active) (hconfig : t.port.config.isSome = true)
    (hstrap : t.port.strap ≠ 63#6) (hstate : t.trk.state ≠ .halted) (hsettled : t.trk.Settled) : ModeObserved t where
  mode := {
    outside := fun hn => absurd hop hn
    active := fun _ => ⟨hstate, hconfig, hstrap⟩
    passive := fun hp => by rw [hop] at hp; cases hp
    bypass := fun hp => by rw [hop] at hp; cases hp
    disabled := fun hp => by rw [hop] at hp; cases hp
    silent := fun hp => by rw [hop] at hp; obtain hp | hp := hp <;> cases hp
    tracker := hsettled }
  observes := .inr (.inl hop)

/-! ### Operations that do nothing outside ACTIVE -/

theorem fileMotion_of_not_active (hn : s.port.op ≠ .active) : fileMotion s = s := if_neg fun h => hn h.1

theorem filePress_of_not_active (p : Press) (hn : s.port.op ≠ .active) : filePress p s = s := if_neg hn

theorem dormant_trigger (hn : s.port.op ≠ .active) (h : Dormant s) : Dormant (trigger s) := by
  rwa [trigger_of_not_active hn]

theorem dormant_searchProximity (b : Bool) (hn : s.port.op ≠ .active) (h : Dormant s) : Dormant (searchProximity b s) := by
  cases b with
  | true =>
    change Dormant (fileMotion s)
    rwa [fileMotion_of_not_active hn]
  | false =>
    obtain ⟨hhv, hpresses, -, hrest⟩ := h
    exact ⟨hhv, hpresses, rfl, hrest⟩

theorem dormant_setProximity (b : Bool) (hn : s.port.op ≠ .active) (h : Dormant s) : Dormant (setProximity b s) := by
  obtain ⟨-, heq⟩ | ⟨-, heq⟩ := setProximity_cases s b
  · rwa [heq]
  · have hset : Dormant (setEvent .proximity { s with cu := { s.cu with inRange := b } }) := h
    rw [heq]
    exact dormant_trigger (by simpa using hn) (dormant_searchProximity b hn hset)

theorem modeObserved_cursor : KeptByCursor ModeObserved where
  capture _ _ _ _ h := h.of
  ring _ _ _ _ h := h.of
  proximity b _ h := h.of (dormant := dormant_setProximity b)
  move _ _ h := h.of
  prev _ _ h := h.of
  motion _ h := h.of_idle fileMotion_of_not_active
  press _ _ h := h.of_idle (filePress_of_not_active _)
  trigger _ h := h.of_idle trigger_of_not_active
  settings _ _ _ _ _ _ _ _ h := h.of

/-! ### Directives and stops -/

/-- Outside ACTIVE the Composer keeps its lists through every directive that does not reset it. -/
theorem dormant_effect {k : DirKind} (e : DirEntry) (hc : k ≠ .configure) (hr : k ≠ .restart) (hm : k ≠ .resume)
    (hi : k ≠ .setInput) (hu : k ≠ .setCursor) (hn : s.port.op ≠ .active) (h : Dormant s) :
    Dormant (effectOf k e s).1 := by
  have hset : ∀ b : Band, Dormant (trigger (setBandUnit b s)) := fun b =>
    dormant_trigger (s := setBandUnit b s) hn h
  cases k
  case configure => exact absurd rfl hc
  case restart => exact absurd rfl hr
  case resume => exact absurd rfl hm
  case setInput => exact absurd rfl hi
  case setCursor => exact absurd rfl hu
  case freeze =>
    change Dormant (applyFreeze e s).1
    unfold applyFreeze
    rwa [if_neg hn]
  case thaw =>
    obtain ⟨hhv, hpresses, hmotion, hsearch, hcomp, -, htrk⟩ := h
    exact ⟨hhv, hpresses, hmotion, hsearch, hcomp, rfl, htrk⟩
  case setBlink =>
    change Dormant (applySetBlink e s).1
    unfold applySetBlink
    obtain ⟨hhv, hpresses, hmotion, hsearch, hcomp, hfrozen, htrk⟩ := h
    have hafter : Dormant { s with pat := blinkAfter e s.pat } :=
      ⟨hhv, hpresses, hmotion, hsearch, hcomp, (blinkAfter_keeps e s.pat).2.trans hfrozen, htrk⟩
    dsimp only
    split
    · exact dormant_trigger (s := { s with pat := blinkAfter e s.pat }) hn hafter
    · exact hafter
  case setBand =>
    change Dormant (applySetBand e s).1
    unfold applySetBand
    exact dormant_trigger (by simpa using hn) (by simpa [Dormant] using h)
  case setStyle =>
    change Dormant (applySetStyle e s).1
    unfold applySetStyle
    obtain ⟨hhv, hpresses, hmotion, hsearch, hcomp, hrest⟩ := h
    refine dormant_trigger (by simpa using hn) ⟨hhv, hpresses, hmotion, hsearch, ?_, hrest⟩
    dsimp only
    rw [hcomp]
    rfl
  case setAnchor => exact hset _
  case clearAnchor => exact hset _
  case trailClear => exact hset _
  case trailAppend =>
    change Dormant (applyTrailAppend e s).1
    unfold applyTrailAppend
    split
    · exact hset _
    · exact h
  case trailDrop =>
    change Dormant (applyTrailDrop e s).1
    unfold applyTrailDrop
    split
    · exact h
    · exact hset _
  all_goals simpa [effectOf, Dormant] using h

/-- Only CONFIGURE, RESTART and RESUME reach the port and the tracker. -/
theorem effectOf_port_trk {k : DirKind} (hc : k ≠ .configure) (hr : k ≠ .restart) (hm : k ≠ .resume) (e : DirEntry)
    (s : State) : (effectOf k e s).1.port = s.port ∧ (effectOf k e s).1.trk = s.trk := by
  cases k
  case configure => exact absurd rfl hc
  case restart => exact absurd rfl hr
  case resume => exact absurd rfl hm
  all_goals simp [effectOf]

/-- A reset in PASSIVE leaves the part dormant. -/
theorem Cleared.dormant (h : Cleared s t) (hpass : t.comp.pass = none) (htrk : t.trk.state = .halted) : Dormant t := by
  obtain ⟨hagain, hstaged, hserving, hentered, -⟩ := h.lists
  refine ⟨h.harvest, by rw [h.search], by rw [h.search], by rw [h.search], ?_, by rw [h.pattern], htrk⟩
  cases hcomp : t.comp
  simp_all [Composer.cleared]

theorem ModeObserved.restartReset (h : ModeObserved s) : ModeObserved (restartReset s) := by
  have hcleared := cleared_restartReset s
  rw [restartReset_eq] at hcleared ⊢
  cases hm : s.port.config with
  | none =>
    rw [enterConfigured_of_none (s := restarted s) hm] at hcleared ⊢
    refine ⟨⟨fun _ => hcleared.dormant rfl rfl, nofun, fun _ => ⟨hm, h.strap⟩, nofun, nofun, fun hop => ?_,
      fun _ => ⟨rfl, rfl, rfl, rfl⟩⟩, .inl rfl⟩
    obtain hop | hop := hop <;> cases hop
  | some m =>
    obtain ⟨hport, -, htrk, -⟩ := enterConfigured_of_config (s := restarted s) hm rfl
    refine .of_started (by rw [hport]) (by rw [hport]; exact congrArg Option.isSome hm) (by rw [hport]; exact h.strap)
      (by rw [htrk]; exact nofun) (by rw [htrk]; exact fun _ => ⟨rfl, rfl, rfl, rfl⟩)

theorem ModeObserved.effect (h : ModeObserved s) (k : DirKind) (e : DirEntry) : ModeObserved (effectOf k e s).1 := by
  by_cases hc : k = .configure
  · subst hc
    obtain ⟨-, heq⟩ | heq := applyConfigure_cases e s
    · rw [effectOf, heq]
      exact .of_started (by simp [configureWith]) (by simp [configureWith]) (by simpa [configureWith] using h.strap)
        (by simp [configureWith]) (by simp [configureWith, Tracker.Settled])
    · rwa [effectOf, heq]
  by_cases hr : k = .restart
  · exact hr ▸ h.restartReset
  by_cases hm : k = .resume
  · subst hm
    change ModeObserved (applyResume e s).1
    unfold applyResume
    split
    · next hop =>
      exact .of_started (by simp) (by simpa using (h.mode.bypass hop).1) (by simpa using h.strap) (by simp)
        (by simp [Tracker.Settled])
    · exact h
  by_cases hi : k = .setInput
  · exact hi ▸ modeObserved_cursor.applySetInput e h
  by_cases hu : k = .setCursor
  · exact hu ▸ modeObserved_cursor.applySetCursor e h
  obtain ⟨hport, htrk⟩ := effectOf_port_trk hc hr hm e s
  exact h.of hport htrk (dormant_effect e hc hr hm hi hu)

theorem ModeObserved.enterBypass (h : ModeObserved s) (hop : s.port.op = .active) : ModeObserved (enterBypass s) := by
  obtain ⟨-, hconfig, hstrap⟩ := h.mode.active hop
  refine ⟨⟨fun _ => ⟨rfl, rfl, rfl, rfl, rfl, rfl, rfl⟩, nofun, nofun, fun _ => ⟨hconfig, hstrap⟩, nofun, fun hb => ?_,
    fun _ => ⟨rfl, rfl, rfl, rfl⟩⟩, .inr (.inr rfl)⟩
  obtain hb | hb := hb <;> cases hb

theorem modeObserved_execution : KeptByExecution ModeObserved where
  effect k e _ h := h.effect k e
  outcome _ _ _ h := h.of
  clear _ _ h := h.of
  record _ _ _ h := h.of
  bypass _ hop h := h.enterBypass hop
  owe _ h := h.of

/-! ### Resets -/

/-- What a reset leaves outside ACTIVE, with no waiting fault where the part is silent (log 8). -/
theorem ModeOk.of_reset (hd : Dormant t) (hop : t.port.op ≠ .active ∧ t.port.op ≠ .bypass)
    (hpassive : t.port.op = .passive → t.port.config = none ∧ t.port.strap ≠ 63#6)
    (hdisabled : t.port.op = .disabled → t.port.strap = 63#6) (hpane : t.pane = t.pane.cleared)
    (hqueue : t.dir.queue = []) (hraised : t.flt.raised = [])
    (htrk : t.trk.frameOpen = false ∧ t.trk.calls = [] ∧ t.trk.record = none ∧ t.trk.inWindow = false) : ModeOk t where
  outside := fun _ => hd
  active := fun h => absurd h hop.1
  passive := hpassive
  bypass := fun h => absurd h hop.2
  disabled := hdisabled
  silent := fun _ => ⟨by rw [hpane]; rfl, by rw [hpane]; rfl, by rw [hpane]; rfl, by rw [hpane]; rfl, hqueue, hraised⟩
  tracker := fun _ => htrk

theorem ModeOk.coldReset (b : BitVec 6) (s : State) : ModeOk (coldReset b s) := by
  rw [coldReset_eq]
  refine .of_reset ⟨rfl, rfl, rfl, rfl, rfl, rfl, rfl⟩ ?_ ?_ ?_ rfl rfl rfl ⟨rfl, rfl, rfl, rfl⟩
  all_goals
    dsimp only
    split_ifs with hb <;> simp [hb]

theorem ModeOk.assertPin (s : State) : ModeOk (assertPin s) :=
  .of_reset ⟨rfl, rfl, rfl, rfl, rfl, rfl, rfl⟩ ⟨nofun, nofun⟩ nofun nofun rfl rfl rfl ⟨rfl, rfl, rfl, rfl⟩

/-- A part that holds its pin has no waiting fault, so that its release leaves none. -/
theorem ModeOk.warmReset (h : ModeOk s) (hop : s.port.op = .transparent) (b : BitVec 6) : ModeOk (warmReset b s) := by
  have hraised : s.flt.raised = [] := (h.silent (.inr hop)).2.2.2.2.2
  have hcleared := cleared_warmReset b s
  by_cases hb : b = 63#6
  · subst hb
    exact .of_reset ⟨rfl, rfl, rfl, rfl, rfl, rfl, rfl⟩ ⟨nofun, nofun⟩ nofun (fun _ => rfl) rfl rfl hraised
      ⟨rfl, rfl, rfl, rfl⟩
  · rw [warmReset_of_ne hb] at hcleared ⊢
    cases hm : checkConfig b s.port.config with
    | none =>
      rw [enterConfigured_of_none (s := releasedPin b s) hm] at hcleared ⊢
      exact .of_reset (hcleared.dormant rfl rfl) ⟨nofun, nofun⟩ (fun _ => ⟨hm, hb⟩) nofun rfl rfl hraised
        ⟨rfl, rfl, rfl, rfl⟩
    | some m =>
      obtain ⟨hport, -, htrk, -⟩ := enterConfigured_of_config (s := releasedPin b s) hm rfl
      refine (ModeObserved.of_started (by rw [hport]) (by rw [hport]; exact congrArg Option.isSome hm)
        (by rw [hport]; exact hb) (by rw [htrk]; exact nofun) (by rw [htrk]; exact fun _ => ⟨rfl, rfl, rfl, rfl⟩)).mode

/-! ### ModeOk under every command -/

theorem ModeOk.observed (h : ModeOk s) (hs : Observes s ∨ s.se.search ≠ none ∨ s.flt.raised ≠ []) : ModeObserved s := by
  refine ⟨h, ?_⟩
  obtain ho | hsearch | hraised := hs
  · exact ho
  · by_contra hn
    exact hsearch (h.outside fun hop => hn (.inr (.inl hop))).2.2.2.1
  · exact (observes_or s).resolve_right fun hop => hraised (h.silent hop).2.2.2.2.2

theorem ModeOk.active_of_search (h : ModeOk s) (hs : s.se.search ≠ none) : s.port.op = .active := by
  by_contra hn
  exact hs (h.outside hn).2.2.2.1

theorem ModeOk.readActive (h : ModeOk s) (hop : s.port.op = .active) (a : Addr) (mem : Word) :
    ModeOk (readActive a mem s) := by
  have hanswered : ModeOk (strokeAnswer a mem (chooseFreeze a s)) := h.of_active_trk hop
  have hop' : (strokeAnswer a mem (chooseFreeze a s)).port.op = .active := by simpa using hop
  have htracked : ModeOk (copyToTracker a (strokeAnswer a mem (chooseFreeze a s))) := by
    refine hanswered.of_active hop' (by simp) ?_
    unfold copyToTracker
    split
    · exact ⟨hanswered.tracker, (hanswered.active hop').1⟩
    · exact trackRead_settled hanswered.tracker (hanswered.active hop').1 _ _ _
  unfold Machine.readActive
  exact htracked.of_active_trk (by simpa using hop)

theorem withdraw_emptied (a : Addr) (h : s.hv = Harvester.emptied) : (withdraw a s).hv = Harvester.emptied := by
  rw [withdraw_hv, h]
  rfl

theorem modeOk_parts : KeptByParts ModeOk ModeObserved where
  execution := modeObserved_execution
  enter _ h hs := h.observed hs
  leave _ h := h.mode
  cursor := modeObserved_cursor
  bus _ _ _ h := h.of_port
  cold b s := ModeOk.coldReset b s
  pin s _ := ModeOk.assertPin s
  warm b _ hop h := h.warmReset hop b
  read a mem _ hop h := h.readActive hop a mem
  reload _ _ hop h := h.of_active_trk hop
  wrap _ hop _ h := h.of_active_trk hop
  resultOpen s ho h := ((h.observed (.inl ho)).of (t := openResultLatch s) rfl rfl fun _ hd => hd).mode
  resultClose s ho h := ((h.observed (.inl ho)).of (t := closeResultLatch s) rfl rfl fun _ hd => hd).mode
  commitOpen s ho h := ((h.observed (.inl ho)).of (t := openCommitLatch s) rfl rfl fun _ hd => hd).mode
  commitClose s ho h := ((h.observed (.inl ho)).of (t := closeCommitLatch s) rfl rfl fun _ hd => hd).mode
  peekOpen s ho h := ((h.observed (.inl ho)).of (t := openPeekLatch s) rfl rfl fun _ hd => hd).mode
  peekClose _ ho h := (h.observed (.inl ho)).of.mode
  post _ _ _ ho h := (h.observed (.inl ho)).of.mode
  shadow _ _ _ _ h := h.of_port
  withdraw a s h := by
    refine h.of_port rfl rfl (fun _ hd => ?_) (fun _ => ⟨rfl, rfl, rfl⟩)
    exact ⟨withdraw_emptied a hd.1, hd.2⟩
  takeStart _ _ _ _ _ hop h := h.of_active_trk hop
  takeEnd _ hop h := h.of_active_trk hop
  takeDiscard _ hop h := h.of_active_trk hop
  offer _ _ hop h := h.of_active_trk hop
  startSearch s h := by
    by_cases hop : s.port.op = .active
    · exact h.of_active_trk hop
    · rwa [startSearch, if_neg fun hx => hop hx.1]
  examine s sr e hsr h := h.of_active_trk (h.active_of_search (by rw [hsr]; exact Option.some_ne_none sr))
  complete s sr hsr h := by
    have hop := h.mode.active_of_search (by rw [hsr]; exact Option.some_ne_none sr)
    have hmode : ModeOk (endSearch (publishAndApply sr s)) := h.mode.of_active_trk hop
    exact ⟨hmode, .inr (.inl (by simpa using hop))⟩
  endPass i s hi h := by
    have hop : s.port.op = .active := by
      by_contra hn
      rw [(h.outside hn).2.2.2.2.1] at hi
      cases hi
    exact h.of_active_trk hop

/-! ### The statement -/

/-- Settles O59: both invariants are kept by the parts of every command, and so by every step. -/
theorem stepKeepsCapacitiesAndModes : Obligations.StepKeepsCapacitiesAndModes := fun _ _ hx =>
  ⟨fun h => capacityOk_parts.step (fun _ _ h => h.of) h hx, fun h => modeOk_parts.step (fun _ _ h => h.of_port) h hx⟩
end Sys2Proof.Machine

/-! PROOFS. Points along a line and its dashes (R64, R78): rounded steps within their box, the ends of a dash, and the statement on
the points of snap arithmetic. -/

namespace Sys2Proof.Machine

/-! ### Rounded steps (R64, R72, R74, R78) -/

theorem roundDiv_zero (q : Int) : roundDiv 0 q = 0 := by rw [roundDiv, Int.sign_zero, zero_mul]

theorem roundDiv_neg (p q : Int) : roundDiv (-p) q = -roundDiv p q := by
  rw [roundDiv, roundDiv, Int.sign_neg, Int.natAbs_neg, neg_mul]

theorem roundDiv_of_nonneg {p : Int} (hp : 0 ≤ p) {q : Int} (hq : 0 < q) : roundDiv p q = (2 * p + q) / (2 * q) := by
  rw [← abs_of_nonneg hp, ← abs_roundDiv p hq, abs_of_nonneg hp, abs_of_nonneg]
  exact mul_nonneg (Int.sign_nonneg_iff.mpr hp) (Int.ediv_nonneg (by omega) (by omega))

theorem roundDiv_mul_self {m : Int} (hm : 0 < m) (v : Int) : roundDiv (m * v) m = v := by
  have hpos (w : Int) (hw : 0 ≤ w) : roundDiv (m * w) m = w := by
    rw [roundDiv_of_nonneg (by positivity) hm, ← mul_assoc, Int.mul_add_ediv_left _ _ (by omega),
      Int.ediv_eq_zero_of_lt hm.le (by omega), add_zero]
  obtain hv | hv := le_total 0 v
  · exact hpos v hv
  · have hneg := hpos (-v) (by omega)
    rw [mul_neg, roundDiv_neg] at hneg
    omega

/-- A share n/m of a step, rounded, does not leave the step. -/
theorem roundDiv_mul_between {n m : Int} (hn : 0 ≤ n) (hnm : n ≤ m) (hm : 0 < m) (v : Int) :
    min 0 v ≤ roundDiv (n * v) m ∧ roundDiv (n * v) m ≤ max 0 v := by
  have hpos (w : Int) (hw : 0 ≤ w) : 0 ≤ roundDiv (n * w) m ∧ roundDiv (n * w) m ≤ w := by
    have hself := roundDiv_mul_self hm w
    rw [roundDiv_of_nonneg (by positivity) hm] at hself ⊢
    refine ⟨Int.ediv_nonneg (by nlinarith [mul_nonneg hn hw]) (by omega), ?_⟩
    calc (2 * (n * w) + m) / (2 * m) ≤ (2 * (m * w) + m) / (2 * m) :=
          Int.ediv_le_ediv (by omega) (by nlinarith [mul_le_mul_of_nonneg_right hnm hw])
      _ = w := hself
  obtain hv | hv := le_total 0 v
  · have := hpos v hv
    omega
  · have := hpos (-v) (by omega)
    rw [mul_neg, roundDiv_neg] at this
    omega

/-- A point lies in the bounding box of two others. -/
def InBox (p q r : Pt) : Prop := min p.x q.x ≤ r.x ∧ r.x ≤ max p.x q.x ∧ min p.y q.y ≤ r.y ∧ r.y ≤ max p.y q.y

theorem InBox.onScreen {p q r : Pt} (h : InBox p q r) (hp : p.OnScreen) (hq : q.OnScreen) : r.OnScreen := by
  obtain ⟨hx, hx', hy, hy'⟩ := h
  obtain ⟨h1, h2, h3, h4⟩ := hp
  obtain ⟨h5, h6, h7, h8⟩ := hq
  exact ⟨by omega, by omega, by omega, by omega⟩

theorem stepAlong_inBox {n m : Int} (hn : 0 ≤ n) (hnm : n ≤ m) (hm : 0 < m) (p q : Pt) :
    InBox p q (stepAlong p (q.sub p) n m) := by
  obtain ⟨hx, hx'⟩ := roundDiv_mul_between hn hnm hm (q.x - p.x)
  obtain ⟨hy, hy'⟩ := roundDiv_mul_between hn hnm hm (q.y - p.y)
  refine ⟨?_, ?_, ?_, ?_⟩ <;> simp only [stepAlong, Pt.sub] <;> omega

/-! ### Dashes and lines (R78) -/

/-- The interval of dash j, unclipped ends included, when something of it is drawn. -/
def dashOf (l period on phase j : Nat) : Option (Nat × Nat) :=
  if max 0 ((j * period : Int) - phase) < min (l : Int) ((j * period : Int) - phase + on) then
    some ((max 0 ((j * period : Int) - phase)).toNat, (min (l : Int) ((j * period : Int) - phase + on)).toNat)
  else none

theorem dashOf_eq_some_iff {l period on phase j : Nat} {x : Nat × Nat} : dashOf l period on phase j = some x ↔
    x.1 < x.2 ∧ (x.1 : Int) = max 0 ((j * period : Int) - phase)
      ∧ (x.2 : Int) = min (l : Int) ((j * period : Int) - phase + on) := by
  unfold dashOf
  split_ifs with hlt
  · rw [Option.some.injEq, Prod.ext_iff]
    dsimp only
    omega
  · simp only [false_iff]
    omega

theorem dashIntervals_eq (l period on phase : Nat) :
    dashIntervals l period on phase = (List.range ((l + phase) / period + 1)).filterMap (dashOf l period on phase) := by
  unfold dashIntervals
  rw [show (do let a ← List.range ((l + phase) / period + 1); pure (a : Int))
    = (List.range ((l + phase) / period + 1)).map Nat.cast from List.map_eq_flatMap.symm, List.filterMap_map]
  rfl

theorem mem_dashIntervals {l period on phase : Nat} {x : Nat × Nat} (h : x ∈ dashIntervals l period on phase) :
    x.1 < x.2 ∧ x.2 ≤ l := by
  rw [dashIntervals_eq] at h
  obtain ⟨j, -, hj⟩ := List.mem_filterMap.mp h
  obtain ⟨hlt, -, hend⟩ := dashOf_eq_some_iff.mp hj
  exact ⟨hlt, by omega⟩

theorem pointAlong_inBox {p q : Pt} {l k : Nat} (hk : k ≤ l) (hl : 0 < l) : InBox p q (pointAlong p q l k) :=
  stepAlong_inBox (by omega) (by omega) (by omega) p q

/-! ### The statement -/

/-- With φ = 3 and 2 steps of 4 drawn, dash 0 of a line runs from −3 to −1, off its start. -/
theorem dashIntervals_phase_three : dashIntervals 10 4 2 3 = [(1, 3), (5, 7), (9, 10)] := by decide

/-- Refutes O45: its dash clause takes j × period − φ as a difference of natural numbers, which is 0 below φ, so that it claims the
interval (0, 2) for a dash 0 that ends at −1 (R78 clips that one away). -/
theorem not_pointsComputed : ¬ Obligations.PointsComputed := by
  rintro ⟨-, -, -, -, -, hdashes, -⟩
  obtain ⟨hmem, -⟩ := hdashes 10 4 2 3 (by decide) (by decide) (by decide) (by decide)
  have hclaimed := (hmem (0, 2)).mpr ⟨by decide, 0, by decide, by decide⟩
  rw [dashIntervals_phase_three] at hclaimed
  exact absurd hclaimed (by decide)

end Sys2Proof.Machine

/-! PROOFS. The composed list stays on the screen, within the window and ends in its RETURN (chapter 7). -/

namespace Sys2Proof.Machine

variable {i : PassInputs} {limit : Nat}

/-! ### Records on the screen (R114) -/

/-- Records of the parts of a list: on the screen, and none of them the RETURN. -/
def Drawn (l : List Rec) : Prop := ∀ r ∈ l, r.Ok ∧ r ≠ .ret

namespace Drawn

theorem nil : Drawn [] := fun _ h => nomatch h

theorem cons {r : Rec} {l : List Rec} (hr : r.Ok) (hret : r ≠ .ret) (h : Drawn l) : Drawn (r :: l) := fun x hx => by
  obtain rfl | hx := List.mem_cons.mp hx
  · exact ⟨hr, hret⟩
  · exact h x hx

theorem append {k l : List Rec} (hk : Drawn k) (hl : Drawn l) : Drawn (k ++ l) := fun r hr =>
  (List.mem_append.mp hr).elim (hk r) (hl r)

theorem move {p : Pt} {l : List Rec} (hp : p.OnScreen) (h : Drawn l) : Drawn (.move p :: l) := h.cons hp nofun

theorem draw {p : Pt} {l : List Rec} (hp : p.OnScreen) (h : Drawn l) : Drawn (.draw p :: l) := h.cons hp nofun

theorem moveTo {l : List Rec} (x y : Int) (h : Drawn l) : Drawn (moveTo x y :: l) := h.move (onScreen_clampPt ⟨x, y⟩)

theorem drawTo {l : List Rec} (x y : Int) (h : Drawn l) : Drawn (drawTo x y :: l) := h.draw (onScreen_clampPt ⟨x, y⟩)

theorem circle {c : Pt} {r : Nat} {l : List Rec} (hc : c.OnScreen) (hr : r ≤ 4095) (h : Drawn l) :
    Drawn (.circle c r :: l) := h.cons ⟨hc, hr⟩ nofun

theorem map_draw {l : List Pt} (h : ∀ p ∈ l, p.OnScreen) : Drawn (l.map .draw) := fun r hr => by
  obtain ⟨p, hp, rfl⟩ := List.mem_map.mp hr
  exact ⟨h p hp, nofun⟩

theorem part {n : Nat} {l : List Rec} (hn : n ≤ 7) (h : Drawn l) : Drawn (part n l) := by
  unfold Machine.part
  split
  · exact nil
  · exact h.cons hn nofun

end Drawn

theorem cursorTable_drawn (g : Glyph) (arm x y : Int) : Drawn (cursorTable g arm x y) := by
  cases g with
  | cross => exact ((((Drawn.nil).drawTo _ _).moveTo _ _).drawTo _ _).moveTo _ _
  | full => exact ((((Drawn.nil).drawTo _ _).moveTo _ _).drawTo _ _).moveTo _ _
  | box => exact (((((Drawn.nil).drawTo _ _).drawTo _ _).drawTo _ _).drawTo _ _).moveTo _ _

theorem markerTable_drawn (k : ResultKind) {half : Nat} (hhalf : half ≤ 64) {p : Pt} (hp : p.OnScreen) :
    Drawn (markerTable k half p.x p.y) := by
  cases k with
  | object k =>
    cases k with
    | endpoint => exact (((((Drawn.nil).drawTo _ _).drawTo _ _).drawTo _ _).drawTo _ _).moveTo _ _
    | midpoint => exact ((((Drawn.nil).drawTo _ _).drawTo _ _).drawTo _ _).moveTo _ _
    | centre => exact Drawn.nil.circle hp (by omega)
    | quadrant => exact (((((Drawn.nil).drawTo _ _).drawTo _ _).drawTo _ _).drawTo _ _).moveTo _ _
    | nearest => exact (((((Drawn.nil).drawTo _ _).drawTo _ _).drawTo _ _).drawTo _ _).moveTo _ _
    | perpendicular => exact (((Drawn.nil).drawTo _ _).drawTo _ _).moveTo _ _
  | grid => exact ((((Drawn.nil).drawTo _ _).moveTo _ _).drawTo _ _).moveTo _ _
  | none => exact .nil
  | constrained => exact .nil
  | free => exact .nil

theorem lineRecs_drawn (i : PassInputs) (solid : Bool) (pen : Option Pt) {x : Pt × Pt} (hfrom : x.1.OnScreen)
    (hto : x.2.OnScreen) : Drawn (lineRecs i solid pen x) := by
  unfold lineRecs
  split
  · split
    · exact Drawn.nil.draw hto
    · exact (Drawn.nil.draw hto).move hfrom
  · split
    · exact (Drawn.nil.draw hfrom).move hfrom
    · next hlength =>
      have halong : ∀ k ≤ lineLength x.1 x.2, (pointAlong x.1 x.2 (lineLength x.1 x.2) k).OnScreen := fun k hk =>
        (pointAlong_inBox hk (Nat.pos_of_ne_zero hlength)).onScreen hfrom hto
      intro r hr
      obtain ⟨d, hd, hr⟩ := List.mem_flatMap.mp hr
      obtain ⟨hlt, hend⟩ := mem_dashIntervals hd
      exact (((Drawn.nil).draw (halong d.2 hend)).move (halong d.1 (by omega))) r hr

theorem linesRecs_drawn (i : PassInputs) (solid : Bool) (pen : Option Pt) {l : List (Pt × Pt)}
    (h : ∀ x ∈ l, x.1.OnScreen ∧ x.2.OnScreen) : Drawn (linesRecs i solid pen l) := by
  induction l generalizing pen with
  | nil => exact .nil
  | cons x rest ih =>
    obtain ⟨hfrom, hto⟩ := h x List.mem_cons_self
    exact (lineRecs_drawn i solid pen hfrom hto).append (ih _ fun y hy => h y (List.mem_cons_of_mem _ hy))

/-- The list without a part (R114, R118). -/
theorem emptyList_ok (hlimit : 32 ≤ limit) : Composed.emptyList.Ok limit where
  recs r hr := by
    rw [List.mem_singleton.mp hr]
    trivial
  ends := ⟨[], rfl, List.not_mem_nil⟩
  fits := (by decide : Composed.emptyList.length ≤ 32).trans hlimit
  shed := by decide

/-! ### The parts of a list on the screen (R118 to R122) -/

section
variable (hi : i.Ok limit)
include hi

theorem bandLines_onScreen : ∀ x ∈ bandLines i, x.1.OnScreen ∧ x.2.OnScreen := by
  have hresult := hi.result
  unfold bandLines
  intro x hx
  split at hx
  · next a ha _ =>
    rw [List.mem_singleton.mp hx]
    exact ⟨hi.anchor a ha, hresult⟩
  · next a ha _ =>
    have hanchor := hi.anchor a ha
    obtain ⟨hax, hax', hay, hay'⟩ := hanchor
    obtain ⟨hrx, hrx', hry, hry'⟩ := hresult
    simp only [List.mem_cons, List.not_mem_nil, or_false] at hx
    obtain rfl | rfl | rfl | rfl := hx <;> simp [Pt.OnScreen, *]
  · next a ha _ =>
    rw [List.mem_singleton.mp hx]
    refine ⟨?_, hresult⟩
    dsimp only
    cases hlast : i.trail.getLast? with
    | none => exact hi.anchor a ha
    | some p => exact hi.trail p (List.mem_of_getLast? hlast)
  all_goals cases hx

theorem chainTable_drawn (solid : Bool) (drop : Nat) : Drawn (chainTable i solid drop) := by
  have htrail : ∀ p ∈ i.trail.drop drop, p.OnScreen := fun p hp => hi.trail p (List.mem_of_mem_drop hp)
  unfold chainTable
  split
  · exact .nil
  · next v rest hdrop =>
    rw [hdrop] at htrail
    have hv := htrail v List.mem_cons_self
    refine ((Drawn.map_draw fun p hp => htrail p (List.mem_cons_of_mem _ hp)).move hv).append ?_
    split
    · exact Drawn.nil.draw hv
    · exact .nil

theorem bandTable_drawn (solid : Bool) (drop : Nat) (pen : Option Pt) : Drawn (bandTable i solid drop pen) := by
  have hlines (p : Option Pt) := linesRecs_drawn i solid p (bandLines_onScreen hi)
  unfold bandTable
  split
  · exact .nil
  · exact hlines pen
  · exact hlines pen
  · split
    · exact .nil
    · next a ha =>
      split
      · exact .nil
      · exact Drawn.nil.circle (hi.anchor a ha) (min_le_left _ _)
  · exact (chainTable_drawn hi solid drop).append (hlines _)

theorem markerOf_drawn : Drawn (markerOf i) := by
  obtain ⟨-, -, -, hhalf, -, hmarker, -⟩ := hi.style
  unfold markerOf
  split
  · exact (markerTable_drawn _ hhalf hi.result).part hmarker
  · exact .nil

theorem listOf_drawn (l : Layout) : ∃ k, listOf i l = k ++ [.ret] ∧ Drawn k := by
  obtain ⟨-, -, -, -, hcursor, -, hband⟩ := hi.style
  refine ⟨_, rfl, .append (.append ?_ ?_) ?_⟩
  · split
    · exact (cursorTable_drawn _ _ _ _).part hcursor
    · exact .nil
  · split
    · exact markerOf_drawn hi
    · exact .nil
  · split
    · exact (bandTable_drawn hi _ _ _).part hband
    · exact .nil

/-! ### The list that a pass stages (R125, R126) -/

theorem shedVertices_le : shedVertices i ≤ 31 := by
  have hvertices := hi.vertices
  unfold shedVertices
  split
  · cases hfind : (List.range (i.trail.length - 1)).find? fun n => fits i ⟨true, n + 1, true, true⟩ with
    | none =>
      simp only [Option.elim]
      omega
    | some n =>
      have hn := List.mem_range.mp (List.mem_of_find?_eq_some hfind)
      simp only [Option.elim]
      omega
  · exact Nat.zero_le _

/-- A layout that fits gives a list of R114, whatever flags go with it. -/
theorem layout_ok {l : Layout} (hfits : fits i l = true) (hdrop : l.drop ≤ 31) (capped dash trail marker band : Bool)
    (seq : Half) : Composed.Ok limit ⟨layoutRecs i l, capped, dash, trail, marker, band, l.drop, seq⟩ := by
  obtain ⟨k, hk, hdrawn⟩ := listOf_drawn hi l
  have hrecs : layoutRecs i l = k ++ [.ret] := (layoutRecs_eq i l).trans hk
  refine ⟨fun r hr => ?_, ⟨k, hrecs, fun hmem => (hdrawn _ hmem).2 rfl⟩, ?_, hdrop⟩
  · obtain hr | hr := List.mem_append.mp (hrecs ▸ hr)
    · exact (hdrawn r hr).1
    · rw [List.mem_singleton.mp hr]
      trivial
  · rw [← hi.window]
    exact of_decide_eq_true hfits

theorem composeList_ok (hlimit : 32 ≤ limit) : (composeList i).Ok limit := by
  have hshed := shedVertices_le hi
  unfold composeList
  dsimp only
  split
  · exact emptyList_ok hlimit
  split
  · next h => exact layout_ok hi h (by decide) _ _ _ _ _ _
  split
  · next h => exact layout_ok hi h (by decide) _ _ _ _ _ _
  split
  · next h => exact layout_ok hi h hshed _ _ _ _ _ _
  split
  · next h => exact layout_ok hi h hshed _ _ _ _ _ _
  · have halone := cursorAlone_fits i (shedVertices i) (by rw [hi.window]; exact hlimit)
    exact layout_ok hi ((fits_iff i _).mpr halone) hshed _ _ _ _ _ _

end

end Sys2Proof.Machine

/-! PROOFS. The composer's lists under every operation (chapter 7): the invariant DrawnOk, and the statement on it. -/

namespace Sys2Proof.Machine

variable {s t : State}

/-! ### DrawnOk by what it speaks of -/

/-- What DrawnOk says of the Preview Composer, for a window of `limit` words. -/
structure Composer.Sound (limit : Nat) (c : Composer) : Prop where
  staged : c.staged.Ok limit
  serving : c.serving.Ok limit
  pass : ∀ i, c.pass = some i → i.Ok limit
  style : c.style.Ok

theorem DrawnOk.sound (h : DrawnOk s) : s.comp.Sound (windowLimit s) := ⟨h.staged, h.serving, h.pass, h.style⟩

theorem windowLimit_congr (h : t.port.config = s.port.config) : windowLimit t = windowLimit s := by
  rw [windowLimit, windowLimit, h]

/-- Each clause carries over by itself; what an operation leaves alone needs no word. -/
theorem DrawnOk.of (h : DrawnOk s) (config : t.port.config = s.port.config := by simp)
    (comp : s.comp.Sound (windowLimit s) → t.comp.Sound (windowLimit s) := by simp)
    (cursor : s.cu.pos.OnScreen → t.cu.pos.OnScreen := by simp)
    (band : t.band = s.band := by simp) (result : t.se.result.point = s.se.result.point := by simp) : DrawnOk t := by
  obtain ⟨hstaged, hserving, hpass, hstyle⟩ := comp h.sound
  rw [← windowLimit_congr config] at hstaged hserving hpass
  exact ⟨(windowLimit_congr config).symm ▸ h.limit, hstaged, hserving, hpass, hstyle, cursor h.cursor,
    h.band.of_blocks band result⟩

/-- An operation on the Band Unit or the result that keeps both on the screen. -/
theorem DrawnOk.with_band (h : DrawnOk s) (band : BandOk t) (config : t.port.config = s.port.config := by simp)
    (comp : t.comp = s.comp := by simp) (cursor : t.cu.pos = s.cu.pos := by simp) : DrawnOk t := by
  have hlimit := windowLimit_congr config
  refine ⟨hlimit ▸ h.limit, ?_, ?_, ?_, comp ▸ h.style, cursor ▸ h.cursor, band⟩
  · rw [hlimit, comp]; exact h.staged
  · rw [hlimit, comp]; exact h.serving
  · rw [hlimit, comp]; exact h.pass

theorem passInputs_windowLen (s : State) : (passInputs s).windowLen = windowLimit s := by
  unfold passInputs windowLimit
  cases s.port.config <;> rfl

theorem passInputs_ok (hcursor : s.cu.pos.OnScreen) (hband : BandOk s) (hstyle : s.comp.style.Ok) :
    (passInputs s).Ok (windowLimit s) where
  cursor := hcursor
  result := hband.result
  anchor p hp := by
    obtain ⟨a, ha, rfl⟩ := Option.map_eq_some_iff.mp hp
    exact hband.anchor a ha
  trail := hband.trail
  vertices := hband.length
  style := hstyle
  window := passInputs_windowLen s

theorem DrawnOk.passInputs (h : DrawnOk s) : (passInputs s).Ok (windowLimit s) := passInputs_ok h.cursor h.band h.style

theorem DrawnOk.trigger (h : DrawnOk s) : DrawnOk (trigger s) := by
  by_cases hop : s.port.op = .active
  · cases hpass : s.comp.pass with
    | none =>
      rw [trigger_of_quiet hop hpass]
      exact h.of (comp := fun hc => ⟨hc.staged, hc.serving, fun i hi => Option.some.inj hi ▸ h.passInputs, hc.style⟩)
    | some i =>
      rw [trigger_of_composing hop (by rw [hpass]; exact Option.some_ne_none i)]
      exact h.of (comp := fun hc => ⟨hc.staged, hc.serving, hc.pass, hc.style⟩)
  · rwa [trigger_of_not_active hop]

theorem DrawnOk.endPass (h : DrawnOk s) {i : PassInputs} (hi : s.comp.pass = some i) : DrawnOk (endPass i s) := by
  have hlist := composeList_ok (h.pass i hi) h.limit
  unfold Machine.endPass
  generalize composeList i = c at hlist ⊢
  have hset : DrawnOk { s with comp := { s.comp with staged := c } } :=
    h.of (comp := fun hc => ⟨hlist, hc.serving, hc.pass, hc.style⟩)
  generalize ({ s with comp := { s.comp with staged := c } } : State) = u at hset ⊢
  dsimp only
  split
  · exact hset.of (comp := fun hc => ⟨hc.staged, hc.serving, fun j hj => Option.some.inj hj ▸ hset.passInputs, hc.style⟩)
  · exact hset.of (comp := fun hc => ⟨hc.staged, hc.serving, fun _ hj => (nomatch hj), hc.style⟩)

/-! ### Samples -/

theorem DrawnOk.setProximity (h : DrawnOk s) (b : Bool) : DrawnOk (setProximity b s) := by
  obtain ⟨-, heq⟩ | ⟨-, heq⟩ := setProximity_cases s b
  · exact heq.symm ▸ h
  · have hset : DrawnOk (setEvent .proximity { s with cu := { s.cu with inRange := b } }) := h.of
    have hsearch : DrawnOk (searchProximity b (setEvent .proximity { s with cu := { s.cu with inRange := b } })) := hset.of
    exact heq ▸ hsearch.trigger

theorem drawnOk_cursor : KeptByCursor DrawnOk where
  capture _ _ _ _ h := h.of
  ring _ _ _ _ h := h.of
  proximity b _ h := h.setProximity b
  move p _ h := h.of (cursor := fun _ => onScreen_clampPt p)
  prev _ _ h := h.of
  motion _ h := h.of
  press _ _ h := h.of
  trigger _ h := h.trigger
  settings _ _ _ _ _ _ _ _ h := h.of

/-! ### Resets and configuration -/

/-- After a reset the lists are empty, and a pass in progress has read the state as it is. -/
theorem DrawnOk.of_fresh (hlimit : 32 ≤ windowLimit t) (hstaged : t.comp.staged = Composed.emptyList)
    (hserving : t.comp.serving = Composed.emptyList) (hpass : ∀ i, t.comp.pass = some i → i = Machine.passInputs t)
    (hstyle : t.comp.style.Ok) (hcursor : t.cu.pos.OnScreen) (hband : BandOk t) : DrawnOk t where
  limit := hlimit
  staged := by rw [hstaged]; exact emptyList_ok hlimit
  serving := by rw [hserving]; exact emptyList_ok hlimit
  pass i hi := hpass i hi ▸ passInputs_ok hcursor hband hstyle
  style := hstyle
  cursor := hcursor
  band := hband

theorem DrawnOk.of_cleared (h : DrawnOk s) (hc : Cleared s t) (hlimit : 32 ≤ windowLimit t)
    (hpass : ∀ i, t.comp.pass = some i → i = Machine.passInputs t) : DrawnOk t := by
  obtain ⟨-, hstaged, hserving, -, hstyle⟩ := hc.lists
  refine .of_fresh hlimit hstaged hserving hpass (by rw [hstyle]; exact h.style) ?_ (.of_cleared hc)
  rw [hc.cursor]
  exact onScreen_start

theorem trigger_pass (hquiet : s.comp.pass = none) : ∀ i, (trigger s).comp.pass = some i → i = passInputs (trigger s) := by
  intro i hi
  by_cases hop : s.port.op = .active
  · rw [trigger_of_quiet hop hquiet] at hi ⊢
    exact (Option.some.inj hi).symm
  · rw [trigger_of_not_active hop, hquiet] at hi
    cases hi

theorem enterConfigured_pass (hquiet : s.comp.pass = none) :
    ∀ i, (enterConfigured s).comp.pass = some i → i = passInputs (enterConfigured s) := by
  obtain ⟨-, heq⟩ | ⟨m, -, heq⟩ := enterConfigured_cases s
  · intro i hi
    rw [heq] at hi
    exact absurd (hi.symm.trans hquiet) (Option.some_ne_none i)
  · rw [heq]
    exact trigger_pass (s := setTrk { s.trk with state := .waiting, expected := m.listBase } (setOp .active s)) hquiet

theorem DrawnOk.restartReset (h : DrawnOk s) : DrawnOk (restartReset s) := by
  refine h.of_cleared (cleared_restartReset s) ?_ ?_
  · rw [restartReset_eq, windowLimit_congr (s := s) (by simp [restarted])]
    exact h.limit
  · rw [restartReset_eq]
    exact enterConfigured_pass rfl

theorem checkConfig_limit (b : BitVec 6) (h : 32 ≤ windowLimit s) (hconfig : t.port.config = checkConfig b s.port.config) :
    32 ≤ windowLimit t := by
  rw [windowLimit, hconfig]
  unfold checkConfig
  split
  · decide
  · next m hm =>
    rw [windowLimit, hm] at h
    split
    · decide
    · exact h

theorem DrawnOk.warmReset (h : DrawnOk s) (b : BitVec 6) : DrawnOk (warmReset b s) := by
  refine h.of_cleared (cleared_warmReset b s) (checkConfig_limit b h.limit (by simp [warmReset_eq, releasedPin])) ?_
  rw [warmReset_eq]
  obtain ⟨-, heq⟩ | ⟨-, heq⟩ := enterByStrap_cases (releasedPin b s)
  · intro i hi
    rw [heq] at hi
    cases hi
  · rw [heq]
    exact enterConfigured_pass rfl

/-- The state in which an accepted CONFIGURE triggers the composer. -/
def configuredQuiet (m : RegionMap) (s : State) : State :=
  let s := setFrozen false (discardLists (restartTracker .waiting (emptyHarvest (abandonSearch s))))
  let s := setCu { s.cu with ring := 0, capture := Vector.replicate 32 (0, 0) } s
  { s with port := { s.port with config := some m, op := .active } }

theorem configureWith_eq (m : RegionMap) (s : State) : configureWith m s = trigger (configuredQuiet m s) := rfl

theorem DrawnOk.configureWith (h : DrawnOk s) {m : RegionMap} (hm : m.Formed) : DrawnOk (configureWith m s) := by
  have hquiet : DrawnOk (configuredQuiet m s) :=
    .of_fresh hm.1 rfl rfl (fun _ hi => nomatch hi) h.style h.cursor (h.band.of_blocks rfl rfl)
  exact hquiet.trigger

/-! ### Reads -/

theorem DrawnOk.patternStep (h : DrawnOk s) : DrawnOk (patternStep s) := by
  unfold Machine.patternStep
  dsimp only
  split
  · exact h
  · split
    · exact DrawnOk.trigger h.of
    · exact h.of

theorem drawnOk_tracking : KeptByTracking DrawnOk where
  raise _ _ _ _ h := h.of
  item _ _ h := h.of
  marker _ _ h := h.of
  track _ _ h := h.of
  lose _ _ h := h.of
  pattern _ h := h.patternStep

theorem DrawnOk.strokeWindow (h : DrawnOk s) (k : Nat) : DrawnOk (strokeWindow k s).1 := by
  have hlatched : DrawnOk (latchWindow s) := h.of (comp := fun hc => by
    refine ⟨hc.staged, ?_, hc.pass, hc.style⟩
    unfold latchWindow
    dsimp only
    split
    · exact hc.serving
    · exact hc.staged)
  have hentered : DrawnOk (if k = 0 then latchWindow s else s) := by
    split
    · exact hlatched
    · exact h
  unfold Machine.strokeWindow
  generalize (if k = 0 then latchWindow s else s) = u at hentered ⊢
  split
  · dsimp only
    split
    · exact hentered
    · exact hentered.of
  · exact h.of (comp := fun hc => ⟨hc.staged, hc.serving, hc.pass, hc.style⟩)

theorem DrawnOk.strokeAnswer (h : DrawnOk s) (a : Addr) (mem : Word) : DrawnOk (strokeAnswer a mem s) := by
  have hleft : DrawnOk (leaveWindow s) := h.of (comp := fun hc => ⟨hc.staged, hc.serving, hc.pass, hc.style⟩)
  unfold Machine.strokeAnswer
  split
  · next k _ => exact (h.strokeWindow k).of
  · split
    · exact hleft.of
    · exact hleft.of

theorem DrawnOk.readActive (h : DrawnOk s) (a : Addr) (mem : Word) : DrawnOk (readActive a mem s) := by
  have hchosen : DrawnOk (chooseFreeze a s) := h.of
  have htracked := drawnOk_tracking.copyToTracker a (hchosen.strokeAnswer a mem)
  unfold Machine.readActive
  exact htracked.of

/-! ### Directives, faults and completions -/

theorem clampNat_style (e : DirEntry) : Style.Ok ⟨glyphOf (e.argU 0), clampNat 1 1024 (e.argU 1), clampNat 2 64 (e.argU 2),
    clampNat 0 7 (e.argU 3), clampNat 0 7 (e.argU 4), clampNat 0 7 (e.argU 5)⟩ := by
  obtain ⟨harm, harm'⟩ := clampNat_le 1 1024 (e.argU 1) (by decide)
  obtain ⟨hhalf, hhalf'⟩ := clampNat_le 2 64 (e.argU 2) (by decide)
  exact ⟨harm, harm', hhalf, hhalf', (clampNat_le 0 7 _ (by decide)).2, (clampNat_le 0 7 _ (by decide)).2,
    (clampNat_le 0 7 _ (by decide)).2⟩

theorem DrawnOk.effect (h : DrawnOk s) (k : DirKind) (e : DirEntry) : DrawnOk (effectOf k e s).1 := by
  have hband := h.band.effect k e
  have hset : ∀ b : Band, BandOk (Machine.trigger (setBandUnit b s)) → DrawnOk (Machine.trigger (setBandUnit b s)) :=
    fun b hb => DrawnOk.trigger (h.with_band (t := setBandUnit b s) (hb.of_blocks (by simp) (by simp)))
  cases k
  case configure =>
    obtain ⟨-, heq⟩ | heq := applyConfigure_cases e s
    · exact heq ▸ h.configureWith (mapOf_formed e)
    · exact heq.symm ▸ h
  case restart => exact h.restartReset
  case resume =>
    change DrawnOk (applyResume e s).1
    unfold applyResume
    split
    · exact DrawnOk.trigger (h.of (t := restartTracker .waiting (setOp .active s)))
    · exact h
  case setInput => exact drawnOk_cursor.applySetInput e h
  case setCursor => exact drawnOk_cursor.applySetCursor e h
  case setBlink =>
    change DrawnOk (applySetBlink e s).1
    unfold applySetBlink
    dsimp only
    split
    · exact DrawnOk.trigger (h.of (t := { s with pat := blinkAfter e s.pat }))
    · exact h.of
  case setStyle =>
    exact DrawnOk.trigger (h.of (comp := fun hc => ⟨hc.staged, hc.serving, hc.pass, clampNat_style e⟩))
  case setAnchor => exact hset _ hband
  case clearAnchor => exact hset _ hband
  case trailClear => exact hset _ hband
  case trailAppend =>
    change DrawnOk (applyTrailAppend e s).1
    change BandOk (applyTrailAppend e s).1 at hband
    unfold applyTrailAppend at hband ⊢
    split_ifs at hband ⊢
    · exact hset _ hband
    · exact h
  case trailDrop =>
    change DrawnOk (applyTrailDrop e s).1
    change BandOk (applyTrailDrop e s).1 at hband
    unfold applyTrailDrop at hband ⊢
    split_ifs at hband ⊢
    · exact h
    · exact hset _ hband
  case setBand =>
    change DrawnOk (applySetBand e s).1
    change BandOk (applySetBand e s).1 at hband
    unfold applySetBand at hband ⊢
    exact DrawnOk.trigger (h.with_band (hband.of_blocks (by simp) (by simp)))
  all_goals exact h.of (by simp [effectOf]) (by simp [effectOf]) (by simp [effectOf]) (by simp [effectOf]) (by simp [effectOf])

theorem DrawnOk.publishAndApply (h : DrawnOk s) (sr : Search) : DrawnOk (publishAndApply sr s) := by
  have hband := h.band.publishAndApply sr
  unfold Machine.publishAndApply at hband ⊢
  dsimp only at hband ⊢
  have hstage : ∀ u : State, u.port = s.port → u.comp = s.comp → u.cu = s.cu → BandOk (Machine.trigger (Machine.promote u)) →
      DrawnOk (Machine.trigger (Machine.promote u)) := fun u hport hcomp hcu hb =>
    DrawnOk.trigger (h.with_band (t := Machine.promote u) (hb.of_blocks (by simp) (by simp)) (by simp [hport])
      (by simp [hcomp]) (by simp [hcu]))
  split_ifs at hband ⊢
  · exact hstage _ (by simp) (by simp) (by simp) hband
  · exact hstage _ (by simp) (by simp) (by simp) hband

theorem drawnOk_execution : KeptByExecution DrawnOk where
  effect k e _ h := h.effect k e
  outcome _ _ _ h := h.of
  clear _ _ h := h.of
  record _ _ _ h := h.of
  bypass _ _ h := by
    exact .of_fresh h.limit rfl rfl (fun _ hi => nomatch hi) h.style h.cursor (h.band.of_blocks rfl rfl)
  owe _ h := h.of

/-- An opening or closing of a latch leaves the lists (R171, R172). -/
theorem DrawnOk.of_pane (h : DrawnOk s) (x : StatusPane) : DrawnOk { s with pane := x } := h.of

theorem drawnOk_reset : DrawnOk State.reset :=
  .of_fresh (by decide) rfl rfl (fun _ hi => nomatch hi)
    ⟨by decide, by decide, by decide, by decide, by decide, by decide, by decide⟩ onScreen_start bandOk_reset

theorem drawnOk_parts : KeptByParts DrawnOk DrawnOk where
  execution := drawnOk_execution
  enter _ h _ := h
  leave _ h := h
  cursor := drawnOk_cursor
  bus _ _ _ h := h.of
  cold b s := by
    rw [coldReset_eq]
    exact .of_fresh (by exact drawnOk_reset.limit) rfl rfl (fun _ hi => nomatch hi) drawnOk_reset.style drawnOk_reset.cursor (bandOk_reset.of_blocks rfl rfl)
  pin s h := by
    refine h.of_cleared ((cleared_recordAll s).setOp .transparent) ?_ (fun _ hi => nomatch hi)
    rw [windowLimit_congr (s := s) (by simp [assertPin, clearWorking])]
    exact h.limit
  warm b _ _ h := h.warmReset b
  read a mem _ _ h := h.readActive a mem
  reload _ _ _ h := h.of
  wrap _ _ _ h := h.of
  resultOpen _ _ h := h.of_pane _
  resultClose _ _ h := h.of_pane _
  commitOpen _ _ h := h.of_pane _
  commitClose _ _ h := h.of_pane _
  peekOpen _ _ h := h.of_pane _
  peekClose _ _ h := h.of
  post _ _ _ _ h := h.of
  shadow _ _ _ _ h := h.of
  withdraw _ _ h := h.of
  takeStart _ _ _ _ _ _ h := h.of
  takeEnd _ _ h := h.of
  takeDiscard _ _ h := h.of
  offer _ _ _ h := h.of
  startSearch _ h := h.of
  examine _ _ _ _ h := h.of
  complete _ sr _ h := (h.publishAndApply sr).of
  endPass _ _ hi h := h.endPass hi

/-- Settles O60: DrawnOk is kept by the parts of every command. -/
theorem stepKeepsLists : Obligations.StepKeepsLists := fun _ _ hx h => drawnOk_parts.step (fun _ _ h => h.of) h hx

end Sys2Proof.Machine

/-! PROOFS. The step, the commands and the straps (chapters 0, 9): what runs, what every command leaves, and the reset values. -/

namespace Sys2Proof.Machine

variable {s t : State}

/-! ### What no command but the resets changes -/

/-- The straps and the queue of waiting commands are `b` and `q`. -/
def StrapsAndQueue (b : BitVec 6) (q : List Instr) (s : State) : Prop := s.port.strap = b ∧ s.pending = q

variable {b : BitVec 6} {q : List Instr}

theorem StrapsAndQueue.of (h : StrapsAndQueue b q s) (strap : t.port.strap = s.port.strap := by simp)
    (pending : t.pending = s.pending := by simp) : StrapsAndQueue b q t := ⟨strap.trans h.1, pending.trans h.2⟩

theorem strapsAndQueue_cursor : KeptByCursor (StrapsAndQueue b q) where
  capture _ _ _ _ h := h.of
  ring _ _ _ _ h := h.of
  proximity _ _ h := h.of
  move _ _ h := h.of
  prev _ _ h := h.of
  motion _ h := h.of
  press _ _ h := h.of
  trigger _ h := h.of
  settings _ _ _ _ _ _ _ _ h := h.of

theorem effectOf_strap_pending (k : DirKind) (e : DirEntry) (s : State) :
    (effectOf k e s).1.port.strap = s.port.strap ∧ (effectOf k e s).1.pending = s.pending := by
  cases k
  case restart => simp [effectOf, applyRestart, restartReset_eq, restarted, clearWorking]
  case configure =>
    obtain ⟨-, heq⟩ | heq := applyConfigure_cases e s
    · rw [effectOf, heq]
      simp [configureWith]
    · rw [effectOf, heq]
      exact ⟨rfl, rfl⟩
  case resume =>
    change (applyResume e s).1.port.strap = s.port.strap ∧ (applyResume e s).1.pending = s.pending
    unfold applyResume
    split
    · simp
    · exact ⟨rfl, rfl⟩
  all_goals simp [effectOf]

theorem strapsAndQueue_execution : KeptByExecution (StrapsAndQueue b q) where
  effect k e s h := h.of (effectOf_strap_pending k e s).1 (effectOf_strap_pending k e s).2
  outcome _ _ _ h := h.of
  clear _ _ h := h.of
  record _ _ _ h := h.of
  bypass _ _ h := h.of rfl rfl
  owe _ h := h.of

theorem strapsAndQueue_runs : KeptByRuns (StrapsAndQueue b q) (StrapsAndQueue b q) where
  execution := strapsAndQueue_execution
  enter _ h _ := h
  leave _ h := h
  cursor := strapsAndQueue_cursor
  bus _ _ _ h := h.of
  pin _ h := h.of (by simp [assertPin, clearWorking]) (by simp [assertPin, clearWorking])
  read _ _ _ _ h := h.of (by simp [readActive]) (by simp [readActive])
  reload _ _ _ h := h.of
  wrap _ _ _ h := h.of
  resultOpen _ _ h := h.of rfl rfl
  resultClose _ _ h := h.of rfl rfl
  commitOpen _ _ h := h.of rfl rfl
  commitClose _ _ h := h.of rfl rfl
  peekOpen _ _ h := h.of rfl rfl
  peekClose _ _ h := h.of
  post _ _ _ _ h := h.of
  shadow _ _ _ _ h := h.of
  withdraw _ _ h := h.of
  takeStart _ _ _ _ _ _ h := h.of
  takeEnd _ _ h := h.of
  takeDiscard _ _ h := h.of
  offer _ _ _ h := h.of
  startSearch _ h := h.of
  examine _ _ _ _ h := h.of
  complete _ _ _ h := h.of
  endPass _ _ _ h := h.of

theorem exec_strap_pending {c : Instr} (hpower : ∀ b held, c ≠ .powerOn b held) (hpin : ∀ b, c ≠ .resetPinReleased b)
    (hx : exec c s = .next t) : t.port.strap = s.port.strap ∧ t.pending = s.pending :=
  strapsAndQueue_runs.exec hpower hpin ⟨rfl, rfl⟩ hx

/-! ### What the commands answer -/

theorem exec_powerOn (b : BitVec 6) (held : Bool) (s : State) : ∃ t, exec (.powerOn b held) s = .next t
    ∧ t.port.strap = b ∧ t.pending = s.pending := by
  obtain ⟨hreleased, hheld⟩ := powerOnIsColdReset b s
  cases held with
  | true => exact ⟨_, hheld, rfl, rfl⟩
  | false => exact ⟨_, hreleased, rfl, rfl⟩

theorem exec_resetPinReleased_of_held (b : BitVec 6) (hop : s.port.op = .transparent) :
    exec (.resetPinReleased b) s = .next (warmReset b s) := congrArg Host.Outcome.next (if_pos hop)

theorem exec_resetPinReleased_of_not_held (b : BitVec 6) (hop : s.port.op ≠ .transparent) :
    exec (.resetPinReleased b) s = .next s := congrArg Host.Outcome.next (if_neg hop)

theorem warmReset_strap_pending (b : BitVec 6) (s : State) :
    (warmReset b s).port.strap = b ∧ (warmReset b s).pending = s.pending := by
  simp [warmReset_eq, releasedPin, clearWorking]

theorem exec_eq_next (c : Instr) (s : State) : ∃ t, exec c s = .next t := by
  cases c
  case strokeRead a mem =>
    by_cases hop : s.port.op = .active
    · exact ⟨_, exec_strokeRead_of_active hop⟩
    · obtain ⟨d, u, heq⟩ := exec_strokeRead_of_not_active (a := a) (mem := mem) hop
      exact ⟨_, heq⟩
  all_goals exact ⟨_, rfl⟩

/-! ### The statements -/

/-- Settles O1. -/
theorem stepRunsFrontCommand : Obligations.StepRunsFrontCommand := fun _ _ _ => rfl

/-- Settles O2: the two resets that sample the straps by their values, every other command by the parts it runs. -/
theorem everyCommandCompletes : Obligations.EveryCommandCompletes := by
  intro c s
  obtain ⟨t, ht⟩ := exec_eq_next c s
  refine ⟨t, ht, ?_⟩
  by_cases hpower : ∃ b held, c = .powerOn b held
  · obtain ⟨b, held, rfl⟩ := hpower
    obtain ⟨u, hu, -, hpending⟩ := exec_powerOn b held s
    cases ht.symm.trans hu
    exact hpending
  · by_cases hpin : ∃ b, c = .resetPinReleased b
    · obtain ⟨b, rfl⟩ := hpin
      by_cases hop : s.port.op = .transparent
      · rw [exec_resetPinReleased_of_held b hop] at ht
        cases ht
        exact (warmReset_strap_pending b s).2
      · rw [exec_resetPinReleased_of_not_held b hop] at ht
        cases ht
        rfl
    · exact (exec_strap_pending (fun b held hc => hpower ⟨b, held, hc⟩) (fun b hc => hpin ⟨b, hc⟩) ht).2

/-- Settles O3. -/
theorem strapsSampledAtResets : Obligations.StrapsSampledAtResets := by
  refine ⟨fun b held s => ?_, fun b s hop => ?_, fun c s t hx hpower hpin => (exec_strap_pending hpower hpin hx).1⟩
  · obtain ⟨t, ht, hstrap, -⟩ := exec_powerOn b held s
    exact ⟨t, ht, hstrap⟩
  · exact ⟨_, exec_resetPinReleased_of_held b hop, (warmReset_strap_pending b s).1⟩

/-- Settles O57: each invariant by the lemma that its own part keeps for it. -/
theorem invariantsAtReset : Obligations.InvariantsAtReset where
  banks := BanksOk.of_emptied rfl
  band := bandOk_reset
  pattern := patternOk_reset
  capacity := .of_fresh rfl rfl rfl rfl rfl rfl rfl rfl rfl (fun m hm => nomatch hm)
  mode := .of_reset ⟨rfl, rfl, rfl, rfl, rfl, rfl, rfl⟩ ⟨nofun, nofun⟩ (fun _ => ⟨rfl, by decide⟩) nofun rfl rfl rfl
    ⟨rfl, rfl, rfl, rfl⟩
  drawn := drawnOk_reset
  search := searchOk_reset

end Sys2Proof.Machine

/-! PROOFS. The directives of the port, the Fault Unit, the snap settings, the band and the style at the head of the queue (chapters
3, 6, 7, 9, 10, 12): what each does, and the statements on them. -/

namespace Sys2Proof.Machine

variable {s : State} {e : DirEntry} {rest : List DirEntry} {code : BitVec 8}

/-! ### Fields and codes (R161) -/

theorem argU_lt (e : DirEntry) (i : Fin 14) : e.argU i < 65536 := by
  have hbits (w : Word) (lo : Nat) : bitsOf w lo 16 < 65536 := Nat.mod_lt _ (by decide)
  unfold DirEntry.argU
  dsimp only
  split <;> exact hbits _ _

theorem toNat_extractLsb' (w : Word) (lo len : Nat) : (w.extractLsb' lo len).toNat = bitsOf w lo len := by
  rw [← ofNat_bitsOf, BitVec.toNat_ofNat]
  exact Nat.mod_mod _ _

theorem toInt_extractLsb' (w : Word) (lo : Nat) {len : Nat} (hlen : 0 < len) :
    (w.extractLsb' lo len).toInt = sbitsOf w lo len := by
  obtain ⟨n, rfl⟩ := Nat.exists_eq_add_of_lt hlen
  have hhalf : 2 * bitsOf w lo (0 + n + 1) < 2 ^ (0 + n + 1) ↔ bitsOf w lo (0 + n + 1) < 2 ^ (0 + n + 1 - 1) := by
    rw [Nat.add_sub_cancel, Nat.pow_succ]
    omega
  simp only [BitVec.toInt_eq_toNat_cond, toNat_extractLsb', sbitsOf, hhalf]
  push_cast
  rfl

theorem clampNat_zero (hi v : Nat) : clampNat 0 hi v = min hi v := Nat.zero_max _

theorem bne_zero_eq_decide (v : Nat) : (v != 0) = decide (v ≠ 0) := by
  rw [bne, decide_not]
  rfl

theorem shapeOf_eq (v : Nat) : shapeOf v = if v = 0 then .none else if v = 1 then .line else if v = 2 then .box
    else if v = 3 then .circle else .poly := by
  match v with
  | 0 | 1 | 2 | 3 | n + 4 => rfl

theorem glyphOf_eq (v : Nat) : glyphOf v = if v = 0 then .cross else if v = 1 then .full else .box := by
  match v with
  | 0 | 1 | n + 2 => rfl

theorem modeOf_eq (v : Nat) : modeOf v = if v = 0 then .off else if v = 1 then .table else .ortho := by
  match v with
  | 0 | 1 | n + 2 => rfl

theorem watchActionOf_eq (v : Nat) : watchActionOf v = if v = 0 then .note else if v = 1 then .freeze else .locate := by
  match v with
  | 0 | 1 | n + 2 => rfl

/-! ### Kinds that do not wait for a search (R163) -/

theorem AtHead.not_searchBound (h : AtHead code e rest s) (hk : (kindOfCode code).searchBound = false) :
    e.dirKind.searchBound = false ∨ s.se.search = none := by
  obtain ⟨-, hkind, -⟩ := h
  exact .inl (by rw [DirEntry.dirKind, hkind]; exact hk)

/-! ### RESUME (R183) -/

theorem applyResume_of_bypass (e : DirEntry) (hop : s.port.op = .bypass) :
    applyResume e s = (trigger (restartTracker .waiting (setOp .active s)), none) := if_pos hop

theorem applyResume_of_not_bypass (e : DirEntry) (hop : s.port.op ≠ .bypass) : applyResume e s = (s, some .notStopped) :=
  if_neg hop

/-- Settles O9. -/
theorem resumeRow : Obligations.ResumeRow := fun e _ _ h => by
  have hb := h.not_searchBound rfl
  exact ⟨fun hop => h.exec_accepted hb rfl (applyResume_of_bypass e hop) (by simp),
    fun hop => h.exec_refused hb rfl (applyResume_of_not_bypass e hop)⟩

/-! ### Fields of a directive (R161) -/

/-- Settles O14. -/
theorem argumentFields : Obligations.ArgumentFields := by
  intro e i h
  simp only [toNat_extractLsb', toInt_extractLsb' _ _ (by decide : 0 < 16)]
  unfold DirEntry.argU DirEntry.argS
  dsimp only
  split <;> exact ⟨rfl, rfl⟩

/-! ### The snap settings (R61, R79, R82) -/

theorem snapOf_eq (e : DirEntry) : snapOf e = ⟨⟨min 7 (e.argU 0), min 7 (e.argU 1), min 7 (e.argU 2), min 7 (e.argU 3),
    min 7 (e.argU 4), min 7 (e.argU 5)⟩, max 1 (min 255 (e.argU 6)),
    max (max 1 (min 255 (e.argU 6)) + 16) (min 1024 (e.argU 7)), min 64 (e.argU 8)⟩ := by
  simp only [snapOf, clampNat_zero]
  rfl

theorem gridOf_eq (e : DirEntry) : gridOf e = ⟨decide (e.argU 0 ≠ 0), ⟨min 4095 (e.argU 1 : Int), min 4095 (e.argU 2 : Int)⟩,
    ⟨max 2 (min 1024 (e.argU 3 : Int)), max 2 (min 1024 (e.argU 4 : Int))⟩⟩ := by
  simp only [gridOf, clampNat_zero, bne_zero_eq_decide]
  simp only [clampNat, Nat.cast_min, Nat.cast_max, Nat.cast_ofNat]

/-- Settles O48. -/
theorem snapSettingRows : Obligations.SnapSettingRows := by
  rintro e rest s a hs rfl
  refine ⟨fun h => ?_, fun h => ?_, fun h => ?_⟩
  · rw [← snapOf_eq]
    exact h.exec_accepted (f := applySetSnap) (.inr hs) rfl rfl rfl
  · rw [← gridOf_eq]
    exact h.exec_accepted (f := applySetGrid) (.inr hs) rfl rfl rfl
  · rw [← modeOf_eq]
    exact h.exec_accepted (f := applySetConstraint) (.inr hs) rfl rfl rfl

/-! ### The Fault Unit (R179, R182, R185) -/

theorem watchOf_eq (e : DirEntry) : watchOf e = ⟨decide (e.argU 4 ≠ 0),
    BitVec.ofNat 20 (65536 * min 15 (e.argU 1) + e.argU 2),
    if e.argU 3 = 0 then .note else if e.argU 3 = 1 then .freeze else .locate⟩ := by
  simp only [watchOf, clampNat_zero, bne_zero_eq_decide, watchActionOf_eq, Nat.mul_comm]

theorem applySetWatch_of_zero (h : e.argU 0 = 0) : applySetWatch e s = ({ s with flt := { s.flt with
    watches := ⟨watchOf e, s.flt.watches.e1⟩, locates := ⟨.none, s.flt.locates.e1⟩ } }, none) := by
  rw [applySetWatch, h]
  rfl

theorem applySetWatch_of_one (h : e.argU 0 = 1) : applySetWatch e s = ({ s with flt := { s.flt with
    watches := ⟨s.flt.watches.e0, watchOf e⟩, locates := ⟨s.flt.locates.e0, .none⟩ } }, none) := by
  rw [applySetWatch, h]
  rfl

theorem applySetWatch_of_ge (h : 2 ≤ e.argU 0) : applySetWatch e s = (s, some .indexRange) := by
  obtain ⟨n, hn⟩ := Nat.exists_eq_add_of_le' h
  rw [applySetWatch, hn]
  rfl

theorem applySetResponses_eq (e : DirEntry) (s : State) : applySetResponses e s = ({ s with flt := { s.flt with
    responses := ⟨decide (e.argU 0 ≠ 0), decide (e.argU 1 ≠ 0), decide (e.argU 2 ≠ 0), decide (e.argU 3 ≠ 0),
      decide (e.argU 4 ≠ 0)⟩ } }, none) := by
  simp only [applySetResponses, bne_zero_eq_decide]

/-- Settles O51. -/
theorem faultSettingRows : Obligations.FaultSettingRows := by
  intro e rest s w hw
  rw [← watchOf_eq] at hw
  subst hw
  exact ⟨fun h => h.exec_accepted (h.not_searchBound rfl) rfl (applySetResponses_eq e s) rfl,
    fun h => h.exec_accepted (f := applyClearFaults) (h.not_searchBound rfl) rfl rfl rfl,
    fun h hzero => h.exec_accepted (h.not_searchBound rfl) rfl (applySetWatch_of_zero hzero) rfl,
    fun h hone => h.exec_accepted (h.not_searchBound rfl) rfl (applySetWatch_of_one hone) rfl,
    fun h hrange => h.exec_refused (h.not_searchBound rfl) rfl (applySetWatch_of_ge hrange)⟩

/-! ### The band, the style and unknown kinds (R112, R132, R166) -/

theorem applySetBand_eq (e : DirEntry) (s : State) : applySetBand e s = (trigger { s with
    band := { s.band with
      shape := if e.argU 0 = 0 then .none else if e.argU 0 = 1 then .line else if e.argU 0 = 2 then .box
        else if e.argU 0 = 3 then .circle else .poly
      period := periodOf (e.argU 1)
      onLen := min 255 (e.argU 2)
      march := decide (e.argU 3 ≠ 0) }
    pat := { s.pat with phase := periodOf (e.argU 1) - 1 } }, none) := by
  simp only [applySetBand, shapeOf_eq, clampNat_zero, bne_zero_eq_decide]
  rfl

theorem applySetStyle_eq (e : DirEntry) (s : State) : applySetStyle e s = (trigger { s with comp := { s.comp with
    style := ⟨if e.argU 0 = 0 then .cross else if e.argU 0 = 1 then .full else .box, max 1 (min 1024 (e.argU 1)),
      max 2 (min 64 (e.argU 2)), min 7 (e.argU 3), min 7 (e.argU 4), min 7 (e.argU 5)⟩ } }, none) := by
  simp only [applySetStyle, glyphOf_eq, clampNat_zero]
  rfl

theorem kindOfCode_of_ge {k : BitVec 8} (h : 28 ≤ k.toNat) : kindOfCode k = .unknown := by
  unfold kindOfCode
  split
  case h_28 => rfl
  all_goals omega

/-- Settles O55. -/
theorem bandStyleUnknownRows : Obligations.BandStyleUnknownRows := by
  rintro e rest s n hn
  obtain rfl : n = periodOf (e.argU 1) := hn
  refine ⟨fun h => h.exec_accepted (h.not_searchBound rfl) rfl (applySetBand_eq e s) (by simp),
    fun h => h.exec_accepted (h.not_searchBound rfl) rfl (applySetStyle_eq e s) (by simp), fun k hk h => ?_⟩
  have hkind := kindOfCode_of_ge hk
  exact h.exec_refused (f := applyUnknown) (h.not_searchBound (by rw [hkind]; rfl)) (by rw [hkind]; rfl) rfl

end Sys2Proof.Machine

/-! PROOFS. The Pattern Counters (chapter 8): the step of a channel and of the cascaded pair, the rows CHANNEL_RELOAD and
DASH_PHASE_WRAP, FREEZE, THAW and SET BLINK, and the statements on them. -/

namespace Sys2Proof.Machine

variable {s : State}

/-! ### The step of a channel (R135, R136) -/

theorem blinkValid_eq (r c : Nat) : blinkValid r c = decide (1 ≤ c ∧ c ≤ r) := (Bool.decide_and _ _).symm

/-- A reload sets ON for steady settings and for a compare value equal to the reload value. -/
theorem reloadOutput_eq (r c : Nat) : reloadOutput r c = decide (¬ (1 ≤ c ∧ c < r)) := by
  rw [reloadOutput, blinkValid_eq, Bool.eq_iff_iff]
  simp only [Bool.or_eq_true, Bool.not_eq_true', decide_eq_false_iff_not, beq_iff_eq, decide_eq_true_eq]
  omega

theorem step_of_zero {c : Channel} (h : c.count = 0) :
    c.step = { c with count := c.reload, out := decide (¬ (1 ≤ c.compare ∧ c.compare < c.reload)) } := by
  rw [Channel.step, chanStep, if_pos h, reloadOutput_eq]

theorem step_of_pos {c : Channel} (h : c.count ≠ 0) : c.step = { c with
    count := c.count - 1
    out := decide (¬ (1 ≤ c.compare ∧ c.compare ≤ c.reload)) || decide (c.count - 1 = c.compare) || c.out } := by
  rw [Channel.step, chanStep, if_neg h, blinkValid_eq, decide_not]
  rfl

theorem step_settings (c : Channel) : c.step.reload = c.reload ∧ c.step.compare = c.compare := ⟨rfl, rfl⟩

theorem iterate_step_settings (c : Channel) (k : Nat) :
    (Channel.step^[k] c).reload = c.reload ∧ (Channel.step^[k] c).compare = c.compare := by
  induction k with
  | zero => exact ⟨rfl, rfl⟩
  | succ k ih => rwa [Function.iterate_succ_apply']

theorem step_out_of_invalid {c : Channel} (h : ¬ (1 ≤ c.compare ∧ c.compare ≤ c.reload)) : c.step.out = true := by
  by_cases hcount : c.count = 0
  · rw [step_of_zero hcount]
    exact decide_eq_true (by omega)
  · rw [step_of_pos hcount]
    simp only [decide_eq_true h, Bool.true_or]

/-- From a reload, k steps down with the output ON from step reload − compare on. -/
theorem iterate_step_of_reload {c : Channel} (hcompare : 1 ≤ c.compare) (hreload : c.compare ≤ c.reload)
    (hcount : c.count = c.reload) (hout : c.out = decide (c.reload = c.compare)) {k : Nat} (hk : k ≤ c.reload) :
    Channel.step^[k] c = { c with count := c.reload - k, out := decide (c.reload - c.compare ≤ k) } := by
  induction k with
  | zero =>
    have hon : decide (c.reload - c.compare ≤ 0) = c.out := by
      rw [hout, decide_eq_decide]
      omega
    rw [Function.iterate_zero_apply, hon, Nat.sub_zero]
    exact congrArg (fun n => Channel.mk c.reload c.compare c.run n c.out) hcount
  | succ k ih =>
    have hpos : c.reload - k ≠ 0 := by omega
    rw [Function.iterate_succ_apply', ih (by omega), step_of_pos hpos]
    dsimp only
    rw [Channel.mk.injEq]
    refine ⟨rfl, rfl, rfl, by omega, ?_⟩
    rw [Bool.eq_iff_iff]
    simp only [Bool.or_eq_true, decide_eq_true_eq]
    omega

/-- Settles O30, by induction on the steps from the reload. -/
theorem blinkCycle : Obligations.BlinkCycle := by
  refine fun c => ⟨fun hcompare hreload hcount hout => ⟨fun k hk => iterate_step_of_reload hcompare hreload hcount hout hk, ?_⟩,
    fun hinvalid k => ?_⟩
  · have hlast := iterate_step_of_reload hcompare hreload hcount hout le_rfl
    change Channel.step^[c.reload + 1] c = c
    rw [Function.iterate_succ_apply', hlast, step_of_zero (Nat.sub_self _)]
    dsimp only
    have hon : decide (¬ (1 ≤ c.compare ∧ c.compare < c.reload)) = c.out := by
      rw [hout, decide_eq_decide]
      omega
    rw [hon]
    exact (congrArg (fun n => Channel.mk c.reload c.compare c.run n c.out) hcount).symm
  · obtain ⟨hr, hc⟩ := iterate_step_settings c k
    rw [Function.iterate_succ_apply']
    exact step_out_of_invalid (by rw [hr, hc]; exact hinvalid)

/-! ### The cascaded pair (R134, R138) -/

theorem outputsDiffer_iff (p q : Patterns) :
    outputsDiffer p q = true ↔ p.a.out ≠ q.a.out ∨ p.b.out ≠ q.b.out := by
  rw [outputsDiffer, Bool.or_eq_true, bne_iff_ne, bne_iff_ne]

/-- A 16-bit count whose low half is in range falls into its halves. -/
theorem setCascade_halves (p : Patterns) {lo hi : Nat} (hlo : lo ≤ 255) (o : Bool) : p.setCascade (hi * 256 + lo) o =
    { p with a := { p.a with count := lo, out := o }, b := { p.b with count := hi, out := o } } := by
  rw [Patterns.setCascade, show (hi * 256 + lo) % 256 = lo by omega, show (hi * 256 + lo) / 256 = hi by omega]

theorem cascadeStep_of_zero {p : Patterns} (hcount : p.count16 = 0) (hreload : p.a.reload ≤ 255) {o : Bool}
    (ho : o = decide (¬ (1 ≤ p.compare16 ∧ p.compare16 < p.reload16))) : p.cascadeStep =
    { p with a := { p.a with count := p.a.reload, out := o }, b := { p.b with count := p.b.reload, out := o } } := by
  rw [Patterns.cascadeStep, chanStep, if_pos hcount, reloadOutput_eq, ← ho]
  exact setCascade_halves p hreload o

theorem cascadeStep_of_pos {p : Patterns} (hcount : p.count16 ≠ 0) (hlo : p.a.count ≤ 255) {o : Bool}
    (ho : o = (decide (¬ (1 ≤ p.compare16 ∧ p.compare16 ≤ p.reload16)) || decide (p.count16 - 1 = p.compare16) || p.a.out)) :
    p.cascadeStep = { p with
      a := { p.a with count := if p.a.count = 0 then 255 else p.a.count - 1, out := o }
      b := { p.b with count := if p.a.count = 0 then p.b.count - 1 else p.b.count, out := o } } := by
  have hout : (!blinkValid p.reload16 p.compare16 || p.count16 - 1 == p.compare16 || p.a.out) = o := by
    rw [ho, blinkValid_eq, decide_not]
    rfl
  rw [Patterns.cascadeStep, chanStep, if_neg hcount, hout, Patterns.setCascade]
  unfold Patterns.count16 at hcount ⊢
  split_ifs with hzero
  · rw [show (p.b.count * 256 + p.a.count - 1) % 256 = 255 by omega,
      show (p.b.count * 256 + p.a.count - 1) / 256 = p.b.count - 1 by omega]
  · rw [show (p.b.count * 256 + p.a.count - 1) % 256 = p.a.count - 1 by omega,
      show (p.b.count * 256 + p.a.count - 1) / 256 = p.b.count by omega]

/-! ### CHANNEL_RELOAD and DASH_PHASE_WRAP (R136, R139; log 10) -/

theorem exec_channelReload_of_due {ch : ChannelName} {p : Patterns} (hop : s.port.op = .active) (hfrozen : s.pat.frozen = false)
    (hdue : reloadDue ch s.pat = true) (hp : stepNamed ch s.pat = p) : exec (.channelReload ch) s =
    .next (if outputsDiffer s.pat p then trigger { s with pat := p } else { s with pat := p }) := by
  rw [← hp]
  exact congrArg Host.Outcome.next (if_pos ⟨hop, hfrozen, hdue⟩)

/-- Whether an output changes decides whether the reload triggers. -/
theorem exec_channelReload_cases {ch : ChannelName} {p : Patterns} (hop : s.port.op = .active) (hfrozen : s.pat.frozen = false)
    (hdue : reloadDue ch s.pat = true) (hp : stepNamed ch s.pat = p) {changed : Prop}
    (hchanged : changed ↔ s.pat.a.out ≠ p.a.out ∨ s.pat.b.out ≠ p.b.out) :
    (changed → exec (.channelReload ch) s = .next (trigger { s with pat := p }))
    ∧ (¬ changed → exec (.channelReload ch) s = .next { s with pat := p }) := by
  rw [exec_channelReload_of_due hop hfrozen hdue hp]
  rw [← outputsDiffer_iff] at hchanged
  exact ⟨fun h => by rw [if_pos (hchanged.mp h)], fun h => by rw [if_neg (mt hchanged.mpr h)]⟩

theorem exec_channelReload_of_not_due {ch : ChannelName}
    (h : s.port.op ≠ .active ∨ s.pat.frozen = true ∨ reloadDue ch s.pat = false) : exec (.channelReload ch) s = .next s := by
  refine congrArg Host.Outcome.next (if_neg ?_)
  rintro ⟨hop, hfrozen, hdue⟩
  rw [hfrozen, hdue] at h
  simp [hop] at h

theorem reloadDue_iff (ch : ChannelName) (p : Patterns) : reloadDue ch p = true ↔
    if p.cascade = true then p.a.run = true ∧ p.a.count = 0 ∧ p.b.count = 0
    else match ch with
      | .a => p.a.run = true ∧ p.a.count = 0
      | .b => p.b.run = true ∧ p.b.count = 0 := by
  unfold reloadDue Patterns.count16
  split
  · simp
    omega
  · cases ch <;> simp

theorem exec_dashPhaseWrap_of_due (hop : s.port.op = .active) (hfrozen : s.pat.frozen = false) (hmarch : s.band.march = true)
    (hperiod : 2 ≤ s.band.period) (hphase : s.pat.phase = 0) :
    exec .dashPhaseWrap s = .next (trigger { s with pat := { s.pat with phase := s.band.period - 1 } }) := by
  have hsteps : phaseSteps s = true := by
    rw [phaseSteps, hmarch]
    exact decide_eq_true hperiod
  have hafter : phaseAfter s.band.period s.pat.phase = s.band.period - 1 := if_pos hphase
  rw [← hafter]
  exact congrArg Host.Outcome.next (if_pos ⟨hop, hfrozen, hsteps, hphase⟩)

theorem exec_dashPhaseWrap_of_not_due (h : s.port.op ≠ .active ∨ s.pat.frozen = true ∨ s.band.march = false
    ∨ s.band.period = 0 ∨ 0 < s.pat.phase) : exec .dashPhaseWrap s = .next s := by
  refine congrArg Host.Outcome.next (if_neg ?_)
  rintro ⟨hop, hfrozen, hsteps, hphase⟩
  obtain ⟨hmarch, hperiod⟩ := Bool.and_eq_true_iff.mp hsteps
  have hperiod' := of_decide_eq_true hperiod
  rw [hfrozen, hmarch] at h
  simp only [hop, ne_eq, not_true_eq_false, Bool.false_eq_true, Bool.true_eq_false, false_or] at h
  omega

/-- Settles O29: each due reload by the step it takes, and each step that is not due by what is missing. -/
theorem patternRows : Obligations.PatternRows := by
  intro s hok
  have hbad : ∀ {ch : ChannelName}, ¬ (reloadDue ch s.pat = true) → reloadDue ch s.pat = false := fun h => by simpa using h
  refine ⟨fun u hop hfrozen hcascade hrun hcount hu => ?reloadA, fun u hop hfrozen hcascade hrun hcount hu => ?reloadB,
    fun o ch p hop hfrozen hcascade hrun ha hb ho hp => ?pair, exec_dashPhaseWrap_of_due, fun h => ?idleA, fun h => ?idleB,
    fun ch hcascade h => ?idlePair, exec_dashPhaseWrap_of_not_due⟩
  case reloadA =>
    have hdue : reloadDue .a s.pat = true := by simp [reloadDue_iff, hcascade, hrun, hcount]
    have hstep : stepNamed .a s.pat = { s.pat with a := u } := by
      rw [hu, ← step_of_zero hcount]
      exact if_neg (by rw [hcascade]; exact Bool.false_ne_true)
    obtain ⟨hchange, hsame⟩ := exec_channelReload_cases (changed := u.out ≠ s.pat.a.out) hop hfrozen hdue hstep
      (by simp [eq_comm])
    exact ⟨hchange, fun h => hsame (not_not.mpr h)⟩
  case reloadB =>
    have hdue : reloadDue .b s.pat = true := by simp [reloadDue_iff, hcascade, hrun, hcount]
    have hstep : stepNamed .b s.pat = { s.pat with b := u } := by
      rw [hu, ← step_of_zero hcount]
      exact if_neg (by rw [hcascade]; exact Bool.false_ne_true)
    obtain ⟨hchange, hsame⟩ := exec_channelReload_cases (changed := u.out ≠ s.pat.b.out) hop hfrozen hdue hstep
      (by simp [eq_comm])
    exact ⟨hchange, fun h => hsame (not_not.mpr h)⟩
  case pair =>
    have hdue : reloadDue ch s.pat = true := by simp [reloadDue_iff, hcascade, hrun, ha, hb]
    have hzero : s.pat.count16 = 0 := by rw [Patterns.count16, ha, hb]
    have ho' : o = decide (¬ (1 ≤ s.pat.compare16 ∧ s.pat.compare16 < s.pat.reload16)) := by
      rw [ho, Patterns.compare16, Patterns.reload16, Nat.mul_comm s.pat.b.compare, Nat.mul_comm s.pat.b.reload]
    have hstep : stepNamed ch s.pat = p := by
      rw [hp, ← cascadeStep_of_zero hzero hok.settings.1 ho']
      exact if_pos hcascade
    obtain ⟨hchange, hsame⟩ := exec_channelReload_cases (changed := o ≠ s.pat.a.out) hop hfrozen hdue hstep
      (by simp [hp, ← hok.cascade hcascade, eq_comm])
    exact ⟨hchange, fun h => hsame (not_not.mpr h)⟩
  case idleA =>
    refine exec_channelReload_of_not_due (h.imp_right (Or.imp_right fun h => hbad ?_))
    rw [reloadDue_iff]
    split
    · rintro ⟨hrun, ha, -⟩
      simp [hrun, ha] at h
    · rintro ⟨hrun, ha⟩
      simp [hrun, ha] at h
  case idleB =>
    refine exec_channelReload_of_not_due (h.imp_right (Or.imp_right fun h => hbad ?_))
    obtain ⟨hcascade, h⟩ := h
    rw [reloadDue_iff, hcascade]
    rintro ⟨hrun, hb⟩
    simp [hrun, hb] at h
  case idlePair =>
    refine exec_channelReload_of_not_due (.inr (.inr (hbad ?_)))
    rw [reloadDue_iff, if_pos hcascade]
    rintro ⟨hrun, ha, hb⟩
    simp [hrun, ha, hb] at h

/-! ### FREEZE, THAW and SET BLINK (R140 to R142) -/

theorem applyFreeze_of_active (e : DirEntry) (hop : s.port.op = .active) : applyFreeze e s = (setFrozen true s, none) := if_pos hop

theorem applyFreeze_of_not_active (e : DirEntry) (hop : s.port.op ≠ .active) : applyFreeze e s = (s, some .notActive) :=
  if_neg hop

theorem blinkSettings_eq (e : DirEntry) (p : Patterns) : blinkSettings e p = { p with
    cascade := decide (e.argU 0 ≠ 0)
    a := { p.a with reload := min 255 (e.argU 1), compare := min 255 (e.argU 2), run := decide (e.argU 5 ≠ 0) }
    b := { p.b with reload := min 255 (e.argU 3), compare := min 255 (e.argU 4), run := decide (e.argU 6 ≠ 0) } } := by
  simp only [blinkSettings, clampNat_zero, bne_zero_eq_decide]

theorem preset_eq (p : Patterns) (h : p.a.reload ≤ 255) : p.preset = { p with
    a := { p.a with
      count := p.a.reload
      out := if p.cascade then decide (¬ (1 ≤ p.compare16 ∧ p.compare16 < p.reload16))
        else decide (¬ (1 ≤ p.a.compare ∧ p.a.compare < p.a.reload)) }
    b := { p.b with
      count := p.b.reload
      out := if p.cascade then decide (¬ (1 ≤ p.compare16 ∧ p.compare16 < p.reload16))
        else decide (¬ (1 ≤ p.b.compare ∧ p.b.compare < p.b.reload)) } } := by
  unfold Patterns.preset
  split
  · rw [reloadOutput_eq]
    exact setCascade_halves p h _
  · rw [reloadOutput_eq, reloadOutput_eq]

theorem keepCounts_eq (p : Patterns) : p.keepCounts = { p with
    a := { p.a with out := p.a.out || (if p.cascade then decide (¬ (1 ≤ p.compare16 ∧ p.compare16 ≤ p.reload16))
      else decide (¬ (1 ≤ p.a.compare ∧ p.a.compare ≤ p.a.reload))) }
    b := { p.b with out := p.b.out || (if p.cascade then decide (¬ (1 ≤ p.compare16 ∧ p.compare16 ≤ p.reload16))
      else decide (¬ (1 ≤ p.b.compare ∧ p.b.compare ≤ p.b.reload))) } } := by
  unfold Patterns.keepCounts
  split
  · simp only [blinkValid_eq, ← decide_not, Bool.or_comm]
  · simp only [blinkValid_eq, ← decide_not, Bool.or_comm]

theorem blinkAfter_eq (e : DirEntry) (p : Patterns) : blinkAfter e p =
    if e.argU 7 ≠ 0 ∨ decide (e.argU 0 ≠ 0) ≠ p.cascade then (blinkSettings e p).preset
    else (blinkSettings e p).keepCounts := by
  rw [← bne_zero_eq_decide]
  rfl

/-- Settles O52: SET BLINK by the two outcomes of R141, in either mode. -/
theorem freezeAndBlinkRows : Obligations.FreezeAndBlinkRows := by
  rintro e rest s p ra ca rb cb r c cas rfl rfl rfl rfl rfl rfl rfl
  refine ⟨fun h hop => h.exec_accepted (h.not_searchBound rfl) rfl (applyFreeze_of_active e hop) rfl,
    fun h hop => h.exec_refused (h.not_searchBound rfl) rfl (applyFreeze_of_not_active e hop),
    fun h => h.exec_accepted (f := applyThaw) (h.not_searchBound rfl) rfl rfl rfl, fun h hafterPreset hafterKeep => ?_⟩
  have hafter : blinkAfter e s.pat = p := by
    rw [blinkAfter_eq]
    split
    · next hcond =>
      rw [hafterPreset hcond, preset_eq _ (by simp [blinkSettings_eq]), blinkSettings_eq]
      simp only [Patterns.compare16, Patterns.reload16, Nat.mul_comm]
    · next hcond =>
      obtain ⟨hpreset, hmode⟩ := not_or.mp hcond
      rw [hafterKeep ⟨not_not.mp hpreset, not_not.mp hmode⟩, keepCounts_eq, blinkSettings_eq]
      simp only [Patterns.compare16, Patterns.reload16, Nat.mul_comm]
  have heffect : applySetBlink e s =
      (if p.a.out = s.pat.a.out ∧ p.b.out = s.pat.b.out then { s with pat := p } else trigger { s with pat := p }, none) := by
    rw [applySetBlink, hafter]
    dsimp only
    by_cases hdiffer : outputsDiffer s.pat p = true
    · rw [if_pos hdiffer, if_neg]
      rintro ⟨ha, hb⟩
      rw [outputsDiffer_iff, ha, hb] at hdiffer
      simp at hdiffer
    · rw [if_neg hdiffer, if_pos]
      rw [outputsDiffer_iff] at hdiffer
      push Not at hdiffer
      exact ⟨hdiffer.1.symm, hdiffer.2.symm⟩
  refine h.exec_accepted (h.not_searchBound rfl) rfl heffect ?_
  split
  · rfl
  · simp

end Sys2Proof.Machine

/-! PROOFS. LOAD DIRECTIONS and CONTINUE DIRECTIONS at the head of the queue (chapter 4), and the statement on them. -/

namespace Sys2Proof.Machine

variable {s : State} {e : DirEntry} {d t : Vector Pt 16} {pairs : List Pt} {first count : Nat}

/-! ### The table after a load (R80, R81) -/

theorem writeDirections_getElem (l : List Pt) (k : Nat) (t : Vector Pt 16) {i : Nat} (hi : i < 16) :
    (writeDirections l k t)[i] = if k ≤ i then l[i - k]?.getD t[i] else t[i] := by
  induction l generalizing k t with
  | nil => simp [writeDirections]
  | cons p rest ih =>
    have hset : (if h : k < 16 then t.set k p else t)[i] = if k = i then p else t[i] := by
      split
      · rw [Vector.getElem_set]
      · rw [if_neg (by omega)]
    rw [writeDirections, ih, hset]
    obtain hlt | rfl | hgt := lt_trichotomy k i
    · rw [if_pos (by omega), if_pos hlt.le, if_neg hlt.ne, show i - k = i - (k + 1) + 1 by omega, List.getElem?_cons_succ]
    · simp
    · rw [if_neg (by omega), if_neg (by omega), if_neg (by omega)]

/-- The table is the one in which `count` entries from `first` on are the pairs, and every other stays. -/
theorem writeDirections_take_eq (hlength : count ≤ pairs.length)
    (hkept : ∀ i : Fin 16, i.val < first ∨ first + count ≤ i.val → d[i] = t[i])
    (hloaded : ∀ (i : Fin 16) (j : Nat), j < count → i.val = first + j → some d[i] = pairs[j]?) :
    writeDirections (pairs.take count) first t = d := by
  refine Vector.ext fun i hi => ?_
  rw [writeDirections_getElem]
  by_cases hin : first ≤ i ∧ i < first + count
  · obtain ⟨hfrom, hto⟩ := hin
    have hpair := hloaded ⟨i, hi⟩ (i - first) (by omega) (by dsimp only; omega)
    rw [if_pos hfrom, List.getElem?_take_of_lt (by omega), ← hpair]
    rfl
  · have hsame := hkept ⟨i, hi⟩ (by dsimp only; omega)
    split
    · rw [List.getElem?_eq_none (by rw [List.length_take]; omega)]
      exact hsame.symm
    · exact hsame.symm

theorem loadTable_eq (h : writeDirections (pairs.take count) first s.se.dirs = d) : loadTable pairs first count s = { s with
    se := { s.se with dirs := d }, dir := { s.dir with continuation := some (first + count) } } := by
  rw [← h]
  rfl

/-! ### The pairs of a directive -/

/-- The pairs of LOAD DIRECTIONS are fields 2 and 3, 4 and 5, and so on. -/
theorem loadPairs_getElem? (e : DirEntry) (j : Fin 5) :
    [directionAt e 2 3, directionAt e 4 5, directionAt e 6 7, directionAt e 8 9, directionAt e 10 11][j.val]? =
      some (directionAt e ⟨2 + 2 * j.val, by omega⟩ ⟨3 + 2 * j.val, by omega⟩) := by
  match j with
  | 0 | 1 | 2 | 3 | 4 => rfl

/-- The pairs of CONTINUE DIRECTIONS are fields 1 and 2, 3 and 4, and so on. -/
theorem continuePairs_getElem? (e : DirEntry) (j : Fin 6) :
    [directionAt e 1 2, directionAt e 3 4, directionAt e 5 6, directionAt e 7 8, directionAt e 9 10,
      directionAt e 11 12][j.val]? =
      some (directionAt e ⟨1 + 2 * j.val, by omega⟩ ⟨2 + 2 * j.val, by omega⟩) := by
  match j with
  | 0 | 1 | 2 | 3 | 4 | 5 => rfl

/-! ### The effects -/

theorem applyLoadDirections_of_fits (hcount : count = clampNat 1 5 (e.argU 1)) (hfits : e.argU 0 + count ≤ 16)
    (hd : ∀ i : Fin 16, (i.val < e.argU 0 ∨ e.argU 0 + count ≤ i.val → d[i] = s.se.dirs[i])
      ∧ (∀ j : Fin 5, j.val < count → i.val = e.argU 0 + j.val →
        d[i] = directionAt e ⟨2 + 2 * j.val, by omega⟩ ⟨3 + 2 * j.val, by omega⟩)) :
    applyLoadDirections e s = ({ s with
      se := { s.se with dirs := d }, dir := { s.dir with continuation := some (e.argU 0 + count) } }, none) := by
  have hle : count ≤ 5 := hcount ▸ (clampNat_le 1 5 _ (by decide)).2
  have htable := writeDirections_take_eq (pairs := [directionAt e 2 3, directionAt e 4 5, directionAt e 6 7,
    directionAt e 8 9, directionAt e 10 11]) hle (fun i => (hd i).1) fun i j hj hi => by
      rw [(hd i).2 ⟨j, by omega⟩ hj hi, ← loadPairs_getElem?]
  rw [applyLoadDirections, ← hcount, if_neg (Nat.not_lt.mpr hfits), loadTable_eq htable]

theorem applyLoadDirections_of_not_fits (hcount : count = clampNat 1 5 (e.argU 1)) (hrange : 16 < e.argU 0 + count) :
    applyLoadDirections e s = (s, some .indexRange) := by
  rw [applyLoadDirections, ← hcount, if_pos hrange]

theorem applyContinueDirections_of_none (h : s.dir.continuation = none) :
    applyContinueDirections e s = (s, some .noContinuation) := by
  rw [applyContinueDirections, h]

theorem applyContinueDirections_of_fits (hcount : count = clampNat 1 6 (e.argU 0)) (hk : s.dir.continuation = some first)
    (hfits : first + count ≤ 16)
    (hd : ∀ i : Fin 16, (i.val < first ∨ first + count ≤ i.val → d[i] = s.se.dirs[i])
      ∧ (∀ j : Fin 6, j.val < count → i.val = first + j.val →
        d[i] = directionAt e ⟨1 + 2 * j.val, by omega⟩ ⟨2 + 2 * j.val, by omega⟩)) :
    applyContinueDirections e s = ({ s with
      se := { s.se with dirs := d }, dir := { s.dir with continuation := some (first + count) } }, none) := by
  have hle : count ≤ 6 := hcount ▸ (clampNat_le 1 6 _ (by decide)).2
  have htable := writeDirections_take_eq (pairs := [directionAt e 1 2, directionAt e 3 4, directionAt e 5 6,
    directionAt e 7 8, directionAt e 9 10, directionAt e 11 12]) hle (fun i => (hd i).1) fun i j hj hi => by
      rw [(hd i).2 ⟨j, by omega⟩ hj hi, ← continuePairs_getElem?]
  rw [applyContinueDirections, ← hcount, hk]
  dsimp only
  rw [if_neg (Nat.not_lt.mpr hfits), loadTable_eq htable]

theorem applyContinueDirections_of_not_fits (hcount : count = clampNat 1 6 (e.argU 0)) (hk : s.dir.continuation = some first)
    (hrange : 16 < first + count) : applyContinueDirections e s = (s, some .indexRange) := by
  rw [applyContinueDirections, ← hcount, hk]
  exact if_pos hrange

/-- Settles O49: each clause is the execution of the head with the effect of its case. -/
theorem directionRows : Obligations.DirectionRows := by
  intro e rest s n d hs
  have hb : e.dirKind.searchBound = false ∨ s.se.search = none := .inr hs
  exact ⟨fun h hn => ⟨fun hrange => h.exec_refused hb rfl (applyLoadDirections_of_not_fits hn hrange),
      fun hfits hd => h.exec_accepted hb rfl (applyLoadDirections_of_fits hn hfits hd) rfl⟩,
    fun h hn => ⟨fun hnone => h.exec_refused hb rfl (applyContinueDirections_of_none hnone),
      fun k hk hrange => h.exec_refused hb rfl (applyContinueDirections_of_not_fits hn hk hrange),
      fun k hk hfits hd => h.exec_accepted hb rfl (applyContinueDirections_of_fits hn hk hfits hd) rfl⟩⟩

end Sys2Proof.Machine

/-! PROOFS. Writes (chapters 2, 5, 9, 10): the strap block, the withdrawal and the mailbox words, and the statements on them. -/

namespace Sys2Proof.Machine

variable {s t : State} {a : Addr} {w : Word} {m : RegionMap} {o : Nat}

/-! ### Where a write lands (R147, R148) -/

theorem strapOffset_eq_none_iff {strap : BitVec 6} : strapOffset strap a = none ↔ ¬ InStrapBlock strap a.toNat := by
  unfold strapOffset strapBase InStrapBlock
  split
  · next h => simp [h]
  · next h => simp [h]

theorem takeWrite_of_outside (hobs : Observes s) (hout : ¬ InStrapBlock s.port.strap a.toNat) :
    takeWrite a w s = withdraw a (handMailbox a w (setBus (some (.write a w)) none s)) := by
  have hobs' : observesWrites (setBus (some (.write a w)) none s) = true := observesWrites_iff.mpr hobs
  rw [takeWrite, handWrite, if_pos hobs', setBus_port, strapOffset_eq_none_iff.mpr hout]

theorem handStrap_pane (h : 128 ≤ o) : handStrap o w s = s := if_neg (Nat.not_lt.mpr h)

/-- What observes a write, where it is handed on at all, is one of the blocks; nobody changes the bus again. -/
theorem takeWrite_bus (a : Addr) (w : Word) (s : State) : (takeWrite a w s).bus = ⟨some (.write a w), none⟩ := by
  unfold takeWrite handWrite
  split
  · split
    · unfold handStrap
      split
      · split <;> simp [setBus]
      · rfl
    · simp [setBus]
  · rfl

/-- Settles O11. -/
theorem writesForwarded : Obligations.WritesForwarded := by
  refine ⟨fun a w s => ⟨_, rfl, takeWrite_bus a w s, fun hn => takeWrite_of_not_observes hn⟩, fun k w s hs => ?_⟩
  have hoffset : 128 + k.toNat < 192 := by have := k.isLt; omega
  change Host.Outcome.next (writeStrap (128 + k.toNat) w s) = _
  rw [writeStrap_eq_takeWrite hs, ← Nat.add_assoc]
  by_cases hobs : Observes s
  · rw [takeWrite_of_strapOffset hobs (o := 128 + k.toNat) (Nat.add_assoc _ _ _ ▸ strapOffset_ofNat hs hoffset),
      handStrap_pane (Nat.le_add_right ..)]
    rfl
  · rw [takeWrite_of_not_observes hobs]
    rfl

/-! ### Argument words of a slot (R159) -/

theorem exec_slotArgumentWrite {slot : BitVec 4} {word : BitVec 3} (hs : s.port.strap ≠ 63#6) :
    exec (.slotArgumentWrite slot word w) s = .next
      (takeWrite (BitVec.ofNat 20 (s.port.strap.toNat * 0x4000 + 8 * slot.toNat + word.toNat)) w s) := by
  rw [Nat.add_assoc]
  exact congrArg Host.Outcome.next (writeStrap_eq_takeWrite hs)

theorem handStrap_argument {slot : BitVec 4} {word : BitVec 3} (hword : word ≠ 0#3) :
    handStrap (8 * slot.toNat + word.toNat) w s = writeShadow slot.toNat word.toNat w s := by
  have hslot := slot.isLt
  have hlt := word.isLt
  have hpos : word.toNat ≠ 0 := fun h => hword (BitVec.eq_of_toNat_eq h)
  rw [handStrap, if_pos (by omega), if_neg (by omega), show (8 * slot.toNat + word.toNat) / 8 = slot.toNat by omega,
    show (8 * slot.toNat + word.toNat) % 8 = word.toNat by omega]

theorem writeShadow_eq {slot word : Nat} (h : 7 * slot + (word - 1) < 112) : writeShadow slot word w s = { s with
    dir := { s.dir with shadow := s.dir.shadow.set (7 * slot + (word - 1)) w } } := dif_pos h

/-- Settles O12. -/
theorem slotArgumentWritten : Obligations.SlotArgumentWritten := by
  intro slot word w s hs hword
  have hslot := slot.isLt
  have hlt := word.isLt
  have hindex : 7 * slot.toNat + (word.toNat - 1) < 112 := by omega
  have hoffset := strapOffset_ofNat hs (o := 8 * slot.toNat + word.toNat) (by omega)
  rw [← Nat.add_assoc] at hoffset
  refine ⟨fun hobs => ?_, fun hn => ?_⟩
  · rw [exec_slotArgumentWrite hs, takeWrite_of_strapOffset hobs hoffset, handStrap_argument hword, writeShadow_eq hindex]
    refine ⟨_, rfl, rfl, ?_, fun i hi => ?_⟩
    · exact Vector.getElem?_set_self hindex
    · exact Vector.getElem?_set_ne hindex (Ne.symm hi)
  · rw [exec_slotArgumentWrite hs, takeWrite_of_not_observes hn]
    rfl

/-! ### Withdrawal (R34, R36, R37) -/

/-- The wrapped distance from the span's address is the least number of steps to the covered address. -/
theorem contains_iff {sp : Span} : sp.contains a = true ↔ sp.Covers a := by
  unfold Span.contains
  rw [decide_eq_true_iff]
  constructor
  · intro h
    refine ⟨_, h, ?_⟩
    rw [BitVec.ofNat_toNat, BitVec.setWidth_eq, add_sub_cancel]
  · rintro ⟨k, hk, rfl⟩
    rw [add_sub_cancel_left, BitVec.toNat_ofNat]
    exact (Nat.mod_le _ _).trans_lt hk

theorem spansHit_iff {source : Span} {origin : Option Span} : spansHit source origin a = true ↔ Touched source origin a := by
  unfold spansHit
  cases origin with
  | none => simp only [Bool.or_false, contains_iff, Touched, reduceCtorEq, false_and, exists_false, or_false]
  | some o => simp only [Bool.or_eq_true, contains_iff, Touched, Option.some.injEq, exists_eq_left']

theorem withdraw_eq (a : Addr) (s : State) : withdraw a s = { s with hv := (withdraw a s).hv } := rfl

theorem withdraw_hv_congr (h : t.hv = s.hv) : (withdraw a t).hv = (withdraw a s).hv := by rw [withdraw_hv, withdraw_hv, h]

/-- The write as the Harvester sees it, with what the Cursor Unit makes of it. -/
theorem takeWrite_eq (hobs : Observes s) (hout : ¬ InStrapBlock s.port.strap a.toNat) : takeWrite a w s =
    { handMailbox a w (setBus (some (.write a w)) none s) with hv := (withdraw a s).hv } := by
  rw [takeWrite_of_outside hobs hout, withdraw_eq, withdraw_hv_congr (s := s) (by simp)]

theorem mailboxPlace_of_outside (h : ¬ m.InMailbox a.toNat) : m.mailboxPlace a = none := if_neg h

theorem handMailbox_of_outside (h : s.port.op ≠ .passive → ∀ m, s.port.config = some m → ¬ m.InMailbox a.toNat) :
    handMailbox a w s = s := by
  unfold handMailbox
  split
  · next hop =>
    have hnot : s.port.op ≠ .passive := by obtain hop | hop := hop <;> rw [hop] <;> decide
    split
    · rfl
    · next m hm => rw [mailboxPlace_of_outside (h hnot m hm)]
  · rfl

/-- Settles O16. -/
theorem writeWithdraws : Obligations.WriteWithdraws := by
  intro a w s hobs hout
  have hwrite := takeWrite_eq (w := w) hobs hout
  have hhv : (takeWrite a w s).hv = (withdraw a s).hv := by rw [hwrite]
  have hdir : (takeWrite a w s).dir = s.dir := by
    rw [hwrite]
    simp [setBus]
  refine ⟨_, rfl, takeWrite_bus a w s, fun i => ?_, ?_, ?_, by simp, by simp, by simp, by simp, hdir, by simp, by simp,
    fun hnot => ?_⟩
  · rw [hhv, withdraw_hv]
    dsimp only
    rw [Triplet.get_map]
    refine ⟨rfl, rfl, List.map_congr_left fun e _ => ?_⟩
    rw [Entry.withdraw, Bool.eq_iff_iff.mpr (spansHit_iff.trans decide_eq_true_iff.symm)]
  · rw [hhv, withdraw_hv]
    refine List.filter_congr fun it _ => ?_
    cases it with
    | segment p q source origin tag => simp only [QItem.survives, Bool.eq_iff_iff.mpr (spansHit_iff.trans decide_eq_true_iff.symm)]
    | circle c r source tag => simp only [QItem.survives, Bool.eq_iff_iff.mpr (spansHit_iff.trans decide_eq_true_iff.symm)]
    | start => rfl
    | endMark => rfl
    | discard => rfl
  · rw [hhv, withdraw_hv]
  · rw [hwrite, handMailbox_of_outside (s := setBus (some (.write a w)) none s) hnot]
    rfl

/-! ### Words of the mailbox (R83) -/

theorem Placed.mailbox_address (h : Placed m s) {r k : Nat} (hr : r < m.records) (hk : k < 4) :
    (BitVec.ofNat 20 (m.mailboxBase.toNat + 4 * r + k)).toNat = m.mailboxBase.toNat + 4 * r + k := by
  have hend := h.fits.mailboxEnds
  rw [BitVec.toNat_ofNat]
  exact Nat.mod_eq_of_lt (by omega)

theorem Placed.mailboxPlace (h : Placed m s) {r k : Nat} (hr : r < m.records) (hk : k < 4)
    (ha : a = BitVec.ofNat 20 (m.mailboxBase.toNat + 4 * r + k)) : m.mailboxPlace a = some (r, k) := by
  rw [ha, RegionMap.mailboxPlace, h.mailbox_address hr hk, if_pos (by omega), Option.some.injEq, Prod.mk.injEq]
  omega

theorem Placed.mailbox_outside (h : Placed m s) {r k : Nat} (hr : r < m.records) (hk : k < 4)
    (ha : a = BitVec.ofNat 20 (m.mailboxBase.toNat + 4 * r + k)) : ¬ InStrapBlock s.port.strap a.toNat := fun hin => by
  refine h.fits.strapFree ⟨_, hin, .inr (.inl ?_)⟩
  rw [ha, h.mailbox_address hr hk]
  exact ⟨by omega, by omega⟩

/-- A write to a word of a mailbox record, as the Cursor Unit and the Harvester take it. -/
theorem Placed.takeWrite_mailbox (h : Placed m s) (hop : s.port.op = .active ∨ s.port.op = .bypass) {r k : Nat}
    (hr : r < m.records) (hk : k < 4) (ha : a = BitVec.ofNat 20 (m.mailboxBase.toNat + 4 * r + k)) : takeWrite a w s =
    { mailboxWrite m.records r k w (setBus (some (.write a w)) none s) with hv := (withdraw a s).hv } := by
  have hobs : Observes s := .inr hop
  rw [takeWrite_eq hobs (h.mailbox_outside hr hk ha), handMailbox, if_pos (by simpa using hop), setBus_port, h.held]
  dsimp only
  rw [h.mailboxPlace hr hk ha]

theorem Placed.writeMailbox_eq (h : Placed m s) {r k : Nat} (hr : r < m.records)
    (ha : a = BitVec.ofNat 20 (m.mailboxBase.toNat + 4 * r + k)) : writeMailbox r k w s = takeWrite a w s := by
  rw [writeMailbox, h.held, ha]
  exact if_pos hr

theorem bit_eq_one_iff (w : Word) (i : Nat) : (bitsOf w i 1 == 1) = w.getLsbD i := by
  rw [bitsOf, BitVec.getLsbD, Nat.testBit_eq_decide_div_mod_eq]
  rfl

theorem statusValid_eq (w : Word) : statusValid w = w.getLsbD 31 := bit_eq_one_iff w 31

theorem mailboxWrite_zero (n r : Nat) (w : Word) (s : State) :
    mailboxWrite n r 0 w s = setCu (captureWord r false w s.cu) s := rfl

theorem mailboxWrite_one (n r : Nat) (w : Word) (s : State) :
    mailboxWrite n r 1 w s = setCu (captureWord r true w s.cu) s := rfl

theorem mailboxWrite_two (n r : Nat) (w : Word) (s : State) : mailboxWrite n r 2 w s = s := rfl

theorem mailboxWrite_status_of_valid (n r : Nat) (s : State) (hvalid : w.getLsbD 31 = true) :
    mailboxWrite n r 3 w s = takeSample n r w s := if_pos (by rw [statusValid_eq]; exact hvalid)

theorem mailboxWrite_status_of_not_valid (n r : Nat) (s : State) (hvalid : w.getLsbD 31 = false) :
    mailboxWrite n r 3 w s = s := if_neg (by rw [statusValid_eq, hvalid]; exact Bool.false_ne_true)

/-- The captured pair after a write to one of its words. -/
theorem captureWord_eq {r : Nat} (hr : r < 32) (second : Bool) (w : Word) (c : CursorUnit) : captureWord r second w c =
    { c with capture := c.capture.set r (if second then (c.capture[r].1, w) else (w, c.capture[r].2)) } := dif_pos hr

theorem Placed.record_lt (h : Placed m s) {r : Nat} (hr : r < m.records) : r < 32 := by
  obtain ⟨-, -, -, -, hmost, -⟩ := h.formed
  omega

/-- Settles O15: the row is the write at its address, and the word number says what the Cursor Unit makes of it. -/
theorem mailboxWordCaptured : Obligations.MailboxWordCaptured := by
  intro m r k w s a h hop hr ha
  have hk := k.isLt
  have hwrite := h.takeWrite_mailbox (w := w) hop hr hk ha
  have hexec : exec (.mailboxWordWrite r k w) s = .next (takeWrite a w s) :=
    congrArg Host.Outcome.next (h.writeMailbox_eq hr ha)
  have hr32 := h.record_lt hr
  refine ⟨hexec.symm, fun hstatus => ?_, fun hnothing => ?_, fun hcaptured => ?_⟩
  · rw [hexec]
    exact congrArg Host.Outcome.next (h.writeMailbox_eq hr (by rw [ha, hstatus]; rfl))
  · rw [hexec, hwrite]
    obtain rfl | ⟨rfl, hvalid⟩ := hnothing
    · exact congrArg (fun u : State => Host.Outcome.next { u with hv := (withdraw a s).hv }) (mailboxWrite_two ..)
    · exact congrArg (fun u : State => Host.Outcome.next { u with hv := (withdraw a s).hv })
        (mailboxWrite_status_of_not_valid _ _ _ hvalid)
  · have hcapture : ∃ second : Bool, (second = true ↔ k ≠ 0#2)
        ∧ mailboxWrite m.records r.toNat k.toNat w (setBus (some (.write a w)) none s) =
          setCu (captureWord r.toNat second w s.cu) (setBus (some (.write a w)) none s) := by
      obtain rfl | rfl := hcaptured
      · exact ⟨false, by decide, mailboxWrite_zero ..⟩
      · exact ⟨true, by decide, mailboxWrite_one ..⟩
    obtain ⟨second, hsecond, hcapture⟩ := hcapture
    rw [hexec, hwrite, hcapture, captureWord_eq hr32]
    refine ⟨_, rfl, rfl, fun p hp => ?_, fun i hi => ?_⟩
    · obtain rfl : s.cu.capture[r.toNat] = p := by
        rw [Vector.getElem?_eq_getElem hr32] at hp
        exact Option.some.inj hp
      dsimp only [setCu]
      rw [Vector.getElem?_set_self hr32]
      cases second with
      | true => rw [if_pos rfl, if_neg (hsecond.mp rfl)]
      | false => rw [if_neg Bool.false_ne_true, if_pos (by simpa using hsecond)]
    · exact Vector.getElem?_set_ne hr32 (Ne.symm hi)

end Sys2Proof.Machine

/-! PROOFS. Requests, proximity and samples (chapters 3 and 5), and the statements on samples. -/

namespace Sys2Proof.Machine

variable {s t u : State} {a : Addr} {w : Word} {m : RegionMap}

/-! ### Requests (R42, R43) -/

theorem fileMotion_eq (s : State) : fileMotion s = { s with se := { s.se with
    motion := s.se.motion || (decide (s.port.op = .active) && s.cu.inRange) } } := by
  unfold fileMotion
  split
  · next h => simp [h.1, h.2]
  · next h =>
    have hnone : (decide (s.port.op = .active) && s.cu.inRange) = false := by
      rw [Bool.eq_false_iff]
      exact fun hboth => h (by simpa using hboth)
    rw [hnone, Bool.or_false]

theorem filePress_of_room {p : Press} (hop : s.port.op = .active) (hroom : s.se.presses.length < 4) : filePress p s = { s with
    se := { s.se with presses := s.se.presses ++ [p], motion := false } } := by
  rw [filePress, if_pos hop, if_pos hroom]

theorem filePress_of_full {p : Press} (hop : s.port.op = .active) (hin : s.cu.inRange = true)
    (hfull : 4 ≤ s.se.presses.length) : filePress p s = { s with
      se := { s.se with motion := true }
      flt := { s.flt with raised := s.flt.raised ++ [⟨.pressOverrun, p.mask.setWidth 20, 0⟩] } } := by
  rw [filePress, if_pos hop, if_neg (Nat.not_lt.mpr hfull), fileMotion_eq]
  simp [raise, hop, hin]

/-! ### Triggers (R116) -/

theorem trigger_isSome (hop : s.port.op = .active) : (trigger s).comp.pass.isSome = true := by
  cases hpass : s.comp.pass with
  | none =>
    rw [trigger_of_quiet hop hpass]
    rfl
  | some i =>
    rw [trigger_of_composing hop (by rw [hpass]; exact Option.some_ne_none i)]
    dsimp only
    rw [hpass]
    rfl

theorem trigger_isSome_of_isSome (h : s.comp.pass.isSome = true) : (trigger s).comp.pass.isSome = true := by
  by_cases hop : s.port.op = .active
  · exact trigger_isSome hop
  · rwa [trigger_of_not_active hop]

/-- A trigger does not read the requests and the faults, and leaves them. -/
theorem trigger_requests (presses : List Press) (motion : Bool) (raised : List Raised) (s : State) :
    trigger { s with se := { s.se with presses := presses, motion := motion }, flt := { s.flt with raised := raised } } =
      { trigger s with
        se := { s.se with presses := presses, motion := motion }, flt := { s.flt with raised := raised } } := by
  unfold trigger
  dsimp only
  split
  · split <;> rfl
  · rfl

/-! ### The proximity (R44, R90) -/

theorem setProximity_of_same {b : Bool} (h : s.cu.inRange = b) : setProximity b s = s := if_pos h

theorem setProximity_of_out (h : s.cu.inRange = false) : setProximity true s = trigger { s with
    cu := { s.cu with inRange := true }
    pane := { s.pane with flags := s.pane.flags ||| 0x040#9 }
    se := { s.se with motion := s.se.motion || decide (s.port.op = .active) } } := by
  have hbit : Event.proximity.bit = 0x040#9 := by decide
  rw [setProximity, if_neg (by rw [h]; decide), searchProximity, if_pos rfl, fileMotion_eq, setEvent, hbit]
  dsimp only
  rw [Bool.and_true]

theorem setProximity_of_in (h : s.cu.inRange = true) : setProximity false s = trigger { s with
    cu := { s.cu with inRange := false }
    pane := { s.pane with flags := s.pane.flags ||| 0x040#9 }
    se := { s.se with
      motion := false
      startOwed := s.se.startOwed && decide (s.se.presses ≠ [])
      result := { s.se.result with outOfRange := true } } } := by
  have hbit : Event.proximity.bit = 0x040#9 := by decide
  have hempty : (!s.se.presses.isEmpty) = decide (s.se.presses ≠ []) := by
    cases s.se.presses <;> rfl
  rw [setProximity, if_neg (by rw [h]; decide), ← hempty, setEvent, hbit]
  rfl

theorem setProximity_cu (b : Bool) (s : State) : (setProximity b s).cu = { s.cu with inRange := b } := by
  cases hin : s.cu.inRange <;> cases b
  · rw [setProximity_of_same hin, ← hin]
  · simp [setProximity_of_out hin]
  · simp [setProximity_of_in hin]
  · rw [setProximity_of_same hin, ← hin]

/-- What the cursor's entry into proximity leaves of the other blocks. -/
theorem setProximity_true (s : State) :
    (setProximity true s).pane = { s.pane with
      flags := if s.cu.inRange then s.pane.flags else s.pane.flags ||| 0x040#9 }
    ∧ (setProximity true s).se = { s.se with
      motion := s.se.motion || (decide (s.port.op = .active) && !s.cu.inRange) }
    ∧ (s.cu.inRange = true → (setProximity true s).comp = s.comp)
    ∧ (s.port.op = .active → s.cu.inRange = false → (setProximity true s).comp.pass.isSome = true) := by
  cases hin : s.cu.inRange with
  | true =>
    rw [setProximity_of_same hin]
    exact ⟨by simp, by simp, fun _ => rfl, fun _ h => nomatch h⟩
  | false =>
    rw [setProximity_of_out hin]
    exact ⟨by simp, by simp, (fun h => nomatch h), fun hop _ => trigger_isSome hop⟩

/-! ### The requests of a sample (R92) -/

/-- The MOTION of a sample that moved the cursor. -/
def sampleMotion (before : Pt) (s : State) : State := if s.cu.pos != before then fileMotion s else s

/-- The PRESS of a sample whose mask holds a button. -/
def samplePress (mask : BitVec 4) (s : State) : State := if mask != 0 then filePress ⟨s.cu.pos, mask⟩ s else s

theorem fileSample_eq (before : Pt) (mask : BitVec 4) (s : State) : fileSample before mask s =
    if s.cu.pos != before then trigger (samplePress mask (sampleMotion before s))
    else samplePress mask (sampleMotion before s) := rfl

theorem sampleMotion_eq (before : Pt) (hin : s.cu.inRange = true) : sampleMotion before s = { s with se := { s.se with
    motion := s.se.motion || (decide (s.port.op = .active) && decide (s.cu.pos ≠ before)) } } := by
  unfold sampleMotion
  by_cases hmoved : s.cu.pos = before
  · simp [hmoved]
  · rw [if_pos (by simpa using hmoved), fileMotion_eq, hin, decide_eq_true hmoved]

theorem fileSample_se_flt (before : Pt) (mask : BitVec 4) (s : State) :
    (fileSample before mask s).se = (samplePress mask (sampleMotion before s)).se
    ∧ (fileSample before mask s).flt = (samplePress mask (sampleMotion before s)).flt := by
  rw [fileSample_eq]
  split <;> simp

theorem samplePress_comp (mask : BitVec 4) (s : State) : (samplePress mask s).comp = s.comp := by
  unfold samplePress
  split <;> simp

theorem sampleMotion_comp (before : Pt) (s : State) : (sampleMotion before s).comp = s.comp := by
  unfold sampleMotion
  split <;> simp

theorem fileSample_comp (before : Pt) (mask : BitVec 4) (s : State) :
    (s.cu.pos = before → (fileSample before mask s).comp = s.comp)
    ∧ (s.port.op = .active → s.cu.pos ≠ before → (fileSample before mask s).comp.pass.isSome = true)
    ∧ (s.comp.pass.isSome = true → (fileSample before mask s).comp.pass.isSome = true) := by
  have hport : (samplePress mask (sampleMotion before s)).port = s.port := by
    unfold samplePress sampleMotion
    split <;> split <;> simp
  have hcomp : (samplePress mask (sampleMotion before s)).comp = s.comp := by
    rw [samplePress_comp, sampleMotion_comp]
  rw [fileSample_eq]
  refine ⟨fun hsame => ?_, fun hop hmoved => ?_, fun hpass => ?_⟩
  · rw [if_neg (by simpa using hsame), hcomp]
  · rw [if_pos (by simpa using hmoved)]
    exact trigger_isSome (by rw [hport]; exact hop)
  · split
    · exact trigger_isSome_of_isSome (by rw [hcomp]; exact hpass)
    · rw [hcomp]
      exact hpass

theorem samplePress_zero (s : State) : samplePress 0#4 s = s := rfl

theorem samplePress_of_ne {mask : BitVec 4} (h : mask ≠ 0) : samplePress mask s = filePress ⟨s.cu.pos, mask⟩ s :=
  if_pos (by simpa using h)

/-- The requests and faults of a sample in proximity, by its mask and the room for presses. -/
theorem fileSample_requests (before : Pt) (mask : BitVec 4) (hin : s.cu.inRange = true) :
    (s.port.op ≠ .active → (fileSample before mask s).se = s.se)
    ∧ (s.port.op = .active → mask = 0 → (fileSample before mask s).se = { s.se with
        motion := s.se.motion || decide (s.cu.pos ≠ before) })
    ∧ (s.port.op = .active → mask ≠ 0 → s.se.presses.length < 4 → (fileSample before mask s).se = { s.se with
        presses := s.se.presses ++ [⟨s.cu.pos, mask⟩], motion := false })
    ∧ (s.port.op = .active → mask ≠ 0 → 4 ≤ s.se.presses.length → (fileSample before mask s).se =
        { s.se with motion := true })
    ∧ (fileSample before mask s).flt = { s.flt with raised := s.flt.raised
        ++ (if s.port.op = .active ∧ mask ≠ 0 ∧ 4 ≤ s.se.presses.length
          then [⟨.pressOverrun, mask.setWidth 20, 0⟩] else []) } := by
  obtain ⟨hse, hflt⟩ := fileSample_se_flt before mask s
  rw [hse, hflt, sampleMotion_eq before hin]
  by_cases hop : s.port.op = .active
  · by_cases hmask : mask = 0#4
    · subst hmask
      rw [samplePress_zero]
      simp [hop]
    · rw [samplePress_of_ne hmask]
      by_cases hroom : s.se.presses.length < 4
      · rw [filePress_of_room (by exact hop) (by exact hroom)]
        simp [hop, hmask, hroom, Nat.not_le.mpr hroom]
      · have hfull := Nat.le_of_not_lt hroom
        rw [filePress_of_full (by exact hop) (by exact hin) (by exact hfull)]
        simp [hop, hmask, hfull, Nat.not_lt.mpr hfull]
  · have hkept : (samplePress mask { s with se := { s.se with
        motion := s.se.motion || (decide (s.port.op = .active) && decide (s.cu.pos ≠ before)) } }) = s := by
      rw [decide_eq_false hop, Bool.false_and, Bool.or_false]
      unfold samplePress
      split
      · exact filePress_of_not_active _ hop
      · rfl
    rw [hkept]
    simp [hop]

/-! ### The sample up to its requests (R84 to R91) -/

theorem nibble_getLsbD (m0 m1 m2 m3 : Bool) (b : Fin 4) :
    (BitVec.ofNat 4 (m0.toNat + 2 * m1.toNat + 4 * m2.toNat + 8 * m3.toNat)).getLsbD b.val = ![m0, m1, m2, m3] b := by
  revert m0 m1 m2 m3 b
  decide

theorem mappedButtons_getLsbD (map : Vector (Option PressAction) 4) (b : Fin 4) :
    (mappedButtons map).getLsbD b.val = (map[b]).isSome := by
  rw [mappedButtons, nibble_getLsbD]
  match b with
  | 0 | 1 | 2 | 3 => rfl

theorem pressMask_eq {c : CursorUnit} {buttons mask : BitVec 4}
    (h : ∀ b : Fin 4, mask.getLsbD b.val = (buttons.getLsbD b.val && !c.prev.getLsbD b.val && (c.map[b]).isSome)) :
    pressMask c buttons = mask := by
  refine BitVec.eq_of_getLsbD_eq fun i hi => ?_
  rw [h ⟨i, hi⟩, ← mappedButtons_getLsbD, pressMask]
  simp [hi]

theorem ringCheck_eq (n r : Nat) (s : State) : ringCheck n r s = { s with
    cu := { s.cu with ring := (r + 1) % n }
    flt := { s.flt with raised := s.flt.raised
      ++ if r = s.cu.ring then [] else [⟨.mailboxOrder, BitVec.ofNat 20 r, 0⟩] } } := by
  unfold ringCheck
  split
  · rw [List.append_nil]
    rfl
  · rfl

theorem append_unless {α : Type} (c : Prop) [Decidable c] (l : List α) (x : α) :
    (l ++ if c then [] else [x]) = if c then l else l ++ [x] := by
  split
  · exact List.append_nil l
  · rfl

theorem setWidth_eq_ofNat (r : BitVec 5) : BitVec.ofNat 20 r.toNat = r.setWidth 20 := by
  apply BitVec.eq_of_toNat_eq
  rw [BitVec.toNat_ofNat, BitVec.toNat_setWidth]

theorem statusInRange_eq (w : Word) : statusInRange w = w.getLsbD 30 := bit_eq_one_iff w 30

theorem statusSource_eq (w : Word) : statusSource w =
    if w.extractLsb' 0 2 = 1#2 then some .tablet else if w.extractLsb' 0 2 = 2#2 then some .wheels else none := by
  rw [← ofNat_bitsOf]
  have hlt : bitsOf w 0 2 < 4 := Nat.mod_lt _ (by decide)
  unfold statusSource
  generalize bitsOf w 0 2 = v at hlt
  interval_cases v <;> rfl

theorem sourceMatches_iff (source : Source) (w : Word) : sourceMatches source (statusSource w) = true ↔
    (source = .tablet ∧ w.extractLsb' 0 2 = 1#2) ∨ (source = .wheels ∧ w.extractLsb' 0 2 = 2#2) := by
  rw [statusSource_eq]
  generalize w.extractLsb' 0 2 = code
  revert code
  cases source <;> decide

/-- The sample row is the status write at the record's address. -/
theorem Placed.exec_sample (h : Placed m s) (hop : s.port.op = .active ∨ s.port.op = .bypass) {r : BitVec 5}
    (hr : r.toNat < m.records) (hvalid : w.getLsbD 31 = true)
    (ha : a = BitVec.ofNat 20 (m.mailboxBase.toNat + 4 * r.toNat + 3)) : exec (.sample r w) s = .next
      { takeSample m.records r.toNat w (setBus (some (.write a w)) none s) with hv := (withdraw a s).hv } := by
  have hwrite := h.takeWrite_mailbox (w := w) hop hr (by decide : 3 < 4) ha
  rw [mailboxWrite_status_of_valid _ _ _ hvalid] at hwrite
  rw [← hwrite]
  exact congrArg Host.Outcome.next (h.writeMailbox_eq hr ha)

theorem takeSample_of_other {n r : Nat} (h : sourceMatches s.cu.source (statusSource w) = false) :
    takeSample n r w s = ringCheck n r s := by
  rw [takeSample]
  exact if_neg (by simp [h])

theorem takeSample_of_selected {n r : Nat} (h : sourceMatches s.cu.source (statusSource w) = true) :
    takeSample n r w s = acceptSample ((ringCheck n r s).cu.captured r) w (ringCheck n r s) := by
  rw [takeSample]
  exact if_pos (by simp [h])

/-- Settles O17. -/
theorem sampleIgnored : Obligations.SampleIgnored := by
  intro m r w s a h hop hr hvalid htablet hwheels ha
  have hother : sourceMatches s.cu.source (statusSource w) = false := by
    rw [← Bool.not_eq_true, sourceMatches_iff]
    exact not_or.mpr ⟨htablet, hwheels⟩
  have htake := takeSample_of_other (s := setBus (some (.write a w)) none s) (n := m.records) (r := r.toNat) hother
  rw [h.exec_sample hop hr hvalid ha, htake, ringCheck_eq, setWidth_eq_ofNat]
  exact congrArg (fun l => Host.Outcome.next { s with
    bus := ⟨some (.write a w), none⟩
    hv := (withdraw a s).hv
    cu := { s.cu with ring := (r.toNat + 1) % m.records }
    flt := { s.flt with raised := l } }) (append_unless (r.toNat = s.cu.ring) _ _)

/-! ### A sample in proximity -/

/-- `u` is `s` with the cursor at `q`, in proximity: what a sample does before its buttons and requests. -/
structure Entered (q : Pt) (s u : State) : Prop where
  cu : u.cu = { s.cu with pos := clampPt q, edge := clampEdge q, inRange := true }
  pane : u.pane = { s.pane with flags := if s.cu.inRange then s.pane.flags else s.pane.flags ||| 0x040#9 }
  se : u.se = { s.se with motion := s.se.motion || (decide (s.port.op = .active) && !s.cu.inRange) }
  flt : u.flt = s.flt
  port : u.port = s.port
  comp : s.cu.inRange = true → u.comp = s.comp
  pass : s.port.op = .active → s.cu.inRange = false → u.comp.pass.isSome = true
  lists : u.comp.staged = s.comp.staged ∧ u.comp.serving = s.comp.serving ∧ u.comp.entered = s.comp.entered
    ∧ u.comp.style = s.comp.style
  rest : u.bus = s.bus ∧ u.trk = s.trk ∧ u.band = s.band ∧ u.pat = s.pat ∧ u.dir = s.dir
    ∧ u.orderChoices = s.orderChoices ∧ u.pending = s.pending

/-- The proximity may be set before the move, as the tablet does. -/
theorem entered_proximity_move (q : Pt) (s : State) : Entered q s (moveCursor q (setProximity true s)) := by
  obtain ⟨hpane, hse, hcomp, hpass⟩ := setProximity_true s
  exact ⟨by rw [moveCursor_cu, setProximity_cu], hpane, hse, by simp, by simp, hcomp, hpass, by simp, by simp⟩

/-- The proximity may be set after the move, as the wheels do. -/
theorem entered_move_proximity (q : Pt) (s : State) : Entered q s (setProximity true (moveCursor q s)) := by
  obtain ⟨hpane, hse, hcomp, hpass⟩ := setProximity_true (moveCursor q s)
  exact ⟨by rw [setProximity_cu, moveCursor_cu], hpane, hse, by simp, by simp, hcomp, hpass, by simp, by simp⟩

theorem tabletIn_eq (w0 : Word) (s : State) : tabletIn w0 s = moveCursor
    ⟨roundDiv ((((w0.extractLsb' 16 16).toNat : Int) - s.cu.ox) * s.cu.gx) 65536,
      roundDiv ((((w0.extractLsb' 0 16).toNat : Int) - s.cu.oy) * s.cu.gy) 65536⟩ (setProximity true s) := by
  simp only [tabletIn, tabletMap, sampleRaw, toNat_extractLsb', setProximity_cu]

theorem wheelsIn_eq (w1 : Word) (s : State) : wheelsIn w1 s = setProximity true (moveCursor
    ⟨s.cu.pos.x + (w1.extractLsb' 24 8).toInt * s.cu.wheel, s.cu.pos.y + (w1.extractLsb' 16 8).toInt * s.cu.wheel⟩ s) := by
  simp only [wheelsIn, wheelMove, sampleWheel, toInt_extractLsb' _ _ (by decide : 0 < 8)]

/-- An accepted sample in proximity files the requests of its press mask, with the cursor moved and the buttons taken. -/
theorem acceptSample_in {q : Pt} {w0 w1 : Word} {mask : BitVec 4}
    (hq : (s.cu.source = .tablet ∧ w.getLsbD 30 = true
        ∧ q = ⟨roundDiv ((((w0.extractLsb' 16 16).toNat : Int) - s.cu.ox) * s.cu.gx) 65536,
          roundDiv ((((w0.extractLsb' 0 16).toNat : Int) - s.cu.oy) * s.cu.gy) 65536⟩)
      ∨ (s.cu.source = .wheels
        ∧ q = ⟨s.cu.pos.x + (w1.extractLsb' 24 8).toInt * s.cu.wheel, s.cu.pos.y + (w1.extractLsb' 16 8).toInt * s.cu.wheel⟩))
    (hmask : ∀ b : Fin 4, mask.getLsbD b.val = (w1.getLsbD b.val && !s.cu.prev.getLsbD b.val && (s.cu.map[b]).isSome)) :
    ∃ u, Entered q s u ∧ acceptSample (w0, w1) w s = fileSample s.cu.pos mask (setPrev (w1.extractLsb' 0 4) u) := by
  have hbuttons : sampleButtons w1 = w1.extractLsb' 0 4 := ofNat_bitsOf 0 4
  have hfinish : ∀ u, Entered q s u → finishSample s.cu.pos (sampleButtons w1) u =
      fileSample s.cu.pos mask (setPrev (w1.extractLsb' 0 4) u) := by
    intro u hu
    have hpress : pressMask u.cu (w1.extractLsb' 0 4) = mask := by
      rw [hu.cu]
      refine pressMask_eq fun b => ?_
      rw [hmask b]
      simp
    rw [finishSample, hbuttons, hpress]
  obtain ⟨hsource, hin, rfl⟩ | ⟨hsource, rfl⟩ := hq
  · refine ⟨_, entered_proximity_move _ s, ?_⟩
    rw [acceptSample, hsource]
    dsimp only
    rw [if_pos (by rw [statusInRange_eq]; exact hin), tabletIn_eq]
    exact hfinish _ (entered_proximity_move _ s)
  · refine ⟨_, entered_move_proximity _ s, ?_⟩
    rw [acceptSample, hsource]
    dsimp only
    rw [wheelsIn_eq]
    exact hfinish _ (entered_move_proximity _ s)

/-- Settles O18: the ring order first, then the move into proximity, then the requests of the press mask. -/
theorem sampleInProximity : Obligations.SampleInProximity := by
  intro m r w s a w0 w1 q mask h hop hr hvalid ha hcapture hq hmask
  have hselected : sourceMatches s.cu.source (statusSource w) = true := by
    rw [sourceMatches_iff]
    exact hq.imp (fun h => ⟨h.1, h.2.1⟩) (fun h => ⟨h.1, h.2.1⟩)
  have htake := takeSample_of_selected (s := setBus (some (.write a w)) none s) (n := m.records) (r := r.toNat) hselected
  rw [ringCheck_eq, setWidth_eq_ofNat] at htake
  generalize hs1 : ({ setBus (some (.write a w)) none s with
    cu := { (setBus (some (.write a w)) none s).cu with ring := (r.toNat + 1) % m.records }
    flt := { (setBus (some (.write a w)) none s).flt with raised := (setBus (some (.write a w)) none s).flt.raised
      ++ if r.toNat = (setBus (some (.write a w)) none s).cu.ring then []
        else [⟨.mailboxOrder, r.setWidth 20, 0⟩] } } : State) = s1 at htake
  have hwords : s1.cu.captured r.toNat = (w0, w1) := by
    subst hs1
    exact congrArg (fun p => Option.getD p (0, 0)) hcapture
  obtain ⟨u, hu, haccept⟩ := acceptSample_in (s := s1) (q := q) (w := w) (w0 := w0) (w1 := w1) (mask := mask)
    (by subst hs1; exact hq.imp (fun h => ⟨h.1, h.2.2⟩) (fun h => ⟨h.1, h.2.2⟩)) (by subst hs1; exact hmask)
  rw [hwords, haccept] at htake
  rw [h.exec_sample hop hr hvalid ha, htake]
  have hbefore : s1.cu.pos = s.cu.pos := by rw [← hs1]; rfl
  rw [hbefore]
  have hin : (setPrev (w1.extractLsb' 0 4) u).cu.inRange = true := by rw [setPrev_cu, hu.cu]
  obtain ⟨hidle, hnoPress, hroom, hfull, hflt⟩ := fileSample_requests s.cu.pos mask hin
  obtain ⟨hsame, hmoved, hkept⟩ := fileSample_comp s.cu.pos mask (setPrev (w1.extractLsb' 0 4) u)
  obtain ⟨hstaged, hserving, hentered, hstyle⟩ := hu.lists
  obtain ⟨hbus, htrk, hband, hpat, hdir, horder, hpending⟩ := hu.rest
  have hcu : (fileSample s.cu.pos mask (setPrev (w1.extractLsb' 0 4) u)).cu = { s.cu with
      ring := (r.toNat + 1) % m.records
      pos := ⟨max 0 (min 4095 q.x), max 0 (min 4095 q.y)⟩
      edge := decide (¬ q.OnScreen)
      inRange := true
      prev := w1.extractLsb' 0 4 } := by
    rw [(fileSample_frame ..).2.2.2.2.1, setPrev_cu, hu.cu, clampEdge_eq, ← hs1]
    rfl
  have hop' : (setPrev (w1.extractLsb' 0 4) u).port.op = s.port.op := by rw [setPrev_port, hu.port, ← hs1]; rfl
  have hse : (setPrev (w1.extractLsb' 0 4) u).se = { s.se with
      motion := s.se.motion || (decide (s.port.op = .active) && !s.cu.inRange) } := by
    rw [setPrev_se, hu.se, ← hs1]; rfl
  have hpos : (setPrev (w1.extractLsb' 0 4) u).cu.pos = ⟨max 0 (min 4095 q.x), max 0 (min 4095 q.y)⟩ := by
    rw [setPrev_cu, hu.cu]; rfl
  rw [hop', hse] at hidle hfull
  rw [hop', hse, hpos] at hnoPress hroom
  rw [hop', hse] at hflt
  rw [hpos, hop'] at hmoved
  rw [hpos] at hsame
  refine ⟨_, rfl, hcu, ?_, fun hbypass => ?_, fun hactive hzero => ?_, fun hactive hne hlt => ?_,
    fun hactive hne hle => ?_, ?_, fun hstill hwas => ?_, fun hactive hchange => ?_, ?_⟩
  · rw [(fileSample_frame ..).2.2.2.2.2.2.2.2.1, setPrev_pane, hu.pane, ← hs1]
    rfl
  · rw [hidle (by rw [hbypass]; decide), hbypass]
    simp
  · rw [hnoPress hactive hzero, hcu, decide_eq_true hactive]
    rfl
  · rw [hroom hactive hne hlt, hcu]
  · rw [hfull hactive hne hle]
  · rw [hflt, setPrev_flt, hu.flt, ← hs1]
    rfl
  · rw [hcu] at hstill
    rw [hsame hstill, setPrev_comp, hu.comp (by rw [← hs1]; exact hwas), ← hs1]
    rfl
  · rw [hcu] at hchange
    obtain hmove | hwas := hchange
    · exact hmoved hactive hmove
    · exact hkept (hu.pass (by rw [← hs1]; exact hactive) (by rw [← hs1]; exact hwas))
  · subst hs1
    simp [hu.lists, hu.rest, hu.port]


/-! ### A sample out of proximity -/

theorem fileSample_of_still {before : Pt} (h : s.cu.pos = before) : fileSample before 0#4 s = s := by
  have hstill : (s.cu.pos != before) = false := by simp [h]
  rw [fileSample_eq, samplePress_zero, sampleMotion, hstill]
  rfl

/-- An accepted TABLET sample out of proximity files no request. -/
theorem acceptSample_out {words : Word × Word} (hsource : s.cu.source = .tablet) (hout : w.getLsbD 30 = false) :
    acceptSample words w s = setPrev 0#4 (setProximity false s) := by
  have hpos : (tabletOut s).cu.pos = s.cu.pos := by rw [tabletOut, setPrev_cu, setProximity_cu]
  rw [acceptSample, hsource]
  dsimp only
  rw [if_neg (by rw [statusInRange_eq, hout]; decide)]
  exact fileSample_of_still hpos

/-- Settles O19. -/
theorem sampleOutOfProximity : Obligations.SampleOutOfProximity := by
  intro m r w s a h hop hr hvalid hsource hcode hout ha
  have hselected : sourceMatches s.cu.source (statusSource w) = true :=
    (sourceMatches_iff _ _).mpr (.inl ⟨hsource, hcode⟩)
  have htake := takeSample_of_selected (s := setBus (some (.write a w)) none s) (n := m.records) (r := r.toNat) hselected
  rw [ringCheck_eq, setWidth_eq_ofNat, acceptSample_out (by exact hsource) hout] at htake
  rw [h.exec_sample hop hr hvalid ha, htake]
  refine ⟨_, rfl, ?_⟩
  by_cases hin : s.cu.inRange = true
  · rw [setProximity_of_in (by exact hin)]
    refine ⟨by simp, by simp [hin], fun _ => by simp only [setPrev_se, trigger_frame]; rfl, by simp [hin],
      fun hactive _ => trigger_isSome (by exact hactive), ?_⟩
    simp
    exact append_unless (r.toNat = s.cu.ring) _ _
  · rw [setProximity_of_same (by simpa using hin)]
    simp [hin]
    exact append_unless (r.toNat = s.cu.ring) _ _
end Sys2Proof.Machine

/-! PROOFS. The settings of the cursor: SET INPUT, SET BUTTONS and SET CURSOR (section 5.5). -/

namespace Sys2Proof.Machine

variable {s t : State} {e : DirEntry}

/-! ### SET INPUT and SET BUTTONS (R94, R95) -/

theorem sourceOf_eq (n : Nat) :
    sourceOf n = if n = 0 then .none else if n = 1 then .tablet else if n = 2 then .wheels else .directed := by
  match n with
  | 0 | 1 | 2 => rfl
  | n + 3 => simp [sourceOf]

theorem actionOf_eq (n : Nat) :
    actionOf n = if n = 0 then none else if n = 1 then some .commit else if n = 2 then some .anchor else some .clear := by
  match n with
  | 0 | 1 | 2 => rfl
  | n + 3 => simp [actionOf]

theorem startsIn_eq (src : Source) : src.startsIn = decide (src = .wheels ∨ src = .directed) := by
  cases src <;> rfl

theorem clampNat_one_argU (e : DirEntry) (i : Fin 14) : clampNat 1 65535 (e.argU i) = max 1 (e.argU i) := by
  have hlt := argU_lt e i
  unfold clampNat
  omega

theorem applySetInput_eq {src : Source} {cu : CursorUnit} (hsrc : src = sourceOf (e.argU 0))
    (hcu : cu = { s.cu with
      source := src
      ox := e.argU 1
      oy := e.argU 2
      gx := max 1 (e.argU 3)
      gy := max 1 (e.argU 4)
      wheel := max 1 (min 16 (e.argU 5)) }) :
    applySetInput e s = (if src = s.cu.source then { s with cu := cu }
      else setProximity (decide (src = .wheels ∨ src = .directed)) { s with cu := { cu with prev := 0 } }, none) := by
  rw [← startsIn_eq, hcu, ← clampNat_one_argU, ← clampNat_one_argU, hsrc]
  rfl

/-! ### SET CURSOR (R96) -/

theorem filePresses_of_not_active (l : List Press) (hop : s.port.op ≠ .active) : filePresses l s = s := by
  induction l with
  | nil => rfl
  | cons p l ih =>
    rw [filePresses, List.foldl_cons, filePress_of_not_active _ hop]
    exact ih

/-- Presses filed together fill the room that is left; each one beyond it is lost with PRESS OVERRUN. -/
theorem filePresses_eq (l : List Press) (hop : s.port.op = .active) (hin : s.cu.inRange = true) :
    filePresses l s = { s with
      se := { s.se with
        presses := s.se.presses ++ l.take (4 - s.se.presses.length)
        motion := if l = [] then s.se.motion else decide (4 - s.se.presses.length < l.length) }
      flt := { s.flt with raised := s.flt.raised
        ++ (l.drop (4 - s.se.presses.length)).map fun p => ⟨.pressOverrun, p.mask.setWidth 20, 0⟩ } } := by
  induction l generalizing s with
  | nil => simp [filePresses]
  | cons p l ih =>
    rw [filePresses, List.foldl_cons, ← filePresses]
    by_cases hroom : s.se.presses.length < 4
    · obtain ⟨k, hk⟩ : ∃ k, 4 - s.se.presses.length = k + 1 := ⟨3 - s.se.presses.length, by omega⟩
      have hk' : 4 - (s.se.presses ++ [p]).length = k := by
        rw [List.length_append, List.length_singleton]
        omega
      rw [filePress_of_room hop hroom, ih (by exact hop) (by exact hin)]
      dsimp only
      rw [hk', hk]
      cases l <;> simp
    · have hk : 4 - s.se.presses.length = 0 := by omega
      rw [filePress_of_full hop hin (Nat.le_of_not_lt hroom), ih (by exact hop) (by exact hin)]
      dsimp only
      rw [hk]
      cases l <;> simp

theorem mappedMask_getLsbD (map : Vector (Option PressAction) 4) (n : Nat) (b : Fin 4) :
    (BitVec.ofNat 4 n &&& mappedButtons map).getLsbD b.val = (decide (n / 2 ^ b.val % 2 = 1) && (map[b]).isSome) := by
  rw [BitVec.getLsbD_and, mappedButtons_getLsbD, BitVec.getLsbD_ofNat, Nat.testBit_eq_decide_div_mod_eq,
    decide_eq_true b.isLt, Bool.true_and]

/-- The buttons whose presses a SET CURSOR files. -/
def pressedButtons (map : Vector (Option PressAction) 4) (n : Nat) : List (Fin 4) :=
  ([0, 1, 2, 3] : List (Fin 4)).filter fun b => decide (n / 2 ^ b.val % 2 = 1) && (map[b]).isSome

theorem cursorPresses_eq (map : Vector (Option PressAction) 4) (n : Nat) (p : Pt) :
    cursorPresses map (BitVec.ofNat 4 n) p = (pressedButtons map n).map fun b => ⟨p, BitVec.twoPow 4 b.val⟩ := by
  have hbuttons : ([0, 1, 2, 3] : List Nat) = ([0, 1, 2, 3] : List (Fin 4)).map Fin.val := rfl
  rw [cursorPresses, hbuttons, List.filter_map, List.map_map, pressedButtons]
  congr 1
  exact List.filter_congr fun b _ => mappedMask_getLsbD map n b

/-- The requests of a SET CURSOR. -/
def fileCursor (l : List Press) (s : State) : State := match l with
  | [] => fileMotion s
  | _ :: _ => filePresses l s

theorem applySetCursor_of_directed (h : s.cu.source = .directed) : applySetCursor e s =
    (let s₁ := setProximity true (moveCursor ⟨e.argS 0, e.argS 1⟩ s)
      let s₂ := fileCursor (cursorPresses s₁.cu.map (BitVec.ofNat 4 (e.argU 2)) s₁.cu.pos) s₁
      (if s₂.cu.pos = s.cu.pos then s₂ else trigger s₂, none)) := if_pos h

theorem fileCursor_eq (l : List Press) (hin : s.cu.inRange = true) :
    fileCursor l s = { s with
      se := { s.se with
        presses := s.se.presses ++ (if s.port.op = .active then l else []).take (4 - s.se.presses.length)
        motion := if s.port.op = .active then decide (l = [] ∨ 4 - s.se.presses.length < l.length) else s.se.motion }
      flt := { s.flt with raised := s.flt.raised ++
        ((if s.port.op = .active then l else []).drop (4 - s.se.presses.length)).map fun p =>
          ⟨.pressOverrun, p.mask.setWidth 20, 0⟩ } } := by
  by_cases hop : s.port.op = .active
  · cases l with
    | nil =>
      rw [fileCursor, fileMotion_eq]
      simp [hop, hin]
    | cons p l =>
      rw [fileCursor, filePresses_eq _ hop hin]
      simp [hop]
  · cases l with
    | nil =>
      rw [fileCursor, fileMotion_eq]
      simp [hop]
    | cons p l =>
      rw [fileCursor, filePresses_of_not_active _ hop]
      simp [hop]

/-- The requests of a SET CURSOR at `p`, by the buttons it presses. -/
theorem fileCursor_pressedButtons (n : Nat) (p : Pt) {l : List (Fin 4)} {room : Nat} (hin : s.cu.inRange = true)
    (hl : l = if s.port.op = .active then pressedButtons s.cu.map n else []) (hroom : room = 4 - s.se.presses.length) :
    fileCursor (cursorPresses s.cu.map (BitVec.ofNat 4 n) p) s = { s with
      se := { s.se with
        presses := s.se.presses ++ (l.take room).map fun b => ⟨p, BitVec.twoPow 4 b.val⟩
        motion := if s.port.op = .active then decide (l = [] ∨ room < l.length) else s.se.motion }
      flt := { s.flt with raised := s.flt.raised
        ++ (l.drop room).map fun b => ⟨.pressOverrun, (BitVec.twoPow 4 b.val).setWidth 20, 0⟩ } } := by
  rw [cursorPresses_eq, fileCursor_eq _ hin, ← hroom, hl]
  by_cases hop : s.port.op = .active
  · simp only [hop, List.map_take, List.map_drop, List.map_map, if_true, List.length_map, List.map_eq_nil_iff]
    rfl
  · simp [hop]

/-- The requests do not meet a trigger. -/
theorem fileCursor_trigger (l : List Press) (hin : s.cu.inRange = true) :
    fileCursor l (trigger s) = trigger (fileCursor l s) := by
  rw [fileCursor_eq l hin, fileCursor_eq l (by simpa using hin)]
  refine Eq.trans ?_ (trigger_requests _ _ _ s).symm
  simp only [trigger_frame]

/-- What a SET CURSOR to `p` leaves before its trigger for a new position: a change of the proximity triggers the composer on
the way. -/
theorem fileCursor_moved (p : Pt) (n : Nat) {s₁ v : State} {l : List (Fin 4)} {room : Nat}
    (hs₁ : s₁ = setProximity true (moveCursor p s))
    (hl : l = if s.port.op = .active then pressedButtons s.cu.map n else []) (hroom : room = 4 - s.se.presses.length)
    (hv : v = { s with
      cu := { s.cu with pos := clampPt p, edge := clampEdge p, inRange := true }
      pane := { s.pane with flags := if s.cu.inRange then s.pane.flags else s.pane.flags ||| 0x040#9 }
      se := { s.se with
        presses := s.se.presses ++ (l.take room).map fun b => ⟨clampPt p, BitVec.twoPow 4 b.val⟩
        motion := if s.port.op = .active then decide (l = [] ∨ room < l.length) else s.se.motion }
      flt := { s.flt with raised := s.flt.raised
        ++ (l.drop room).map fun b => ⟨.pressOverrun, (BitVec.twoPow 4 b.val).setWidth 20, 0⟩ } }) :
    fileCursor (cursorPresses s₁.cu.map (BitVec.ofNat 4 n) s₁.cu.pos) s₁ = if s.cu.inRange then v else trigger v := by
  subst hs₁ hv
  by_cases hin : s.cu.inRange = true
  · have hfile := fileCursor_pressedButtons (s := moveCursor p s) n (clampPt p) hin hl hroom
    rw [setProximity_of_same (by exact hin), if_pos hin]
    refine hfile.trans ?_
    simp [moveCursor, setCu, hin]
  · have hout : s.cu.inRange = false := by simpa using hin
    rw [setProximity_of_out (by exact hout), if_neg hin]
    have hcu : ∀ x : State, (trigger x).cu = x.cu := by simp
    rw [hcu, fileCursor_trigger _ (by rfl)]
    refine congrArg trigger ((fileCursor_pressedButtons (s := { s with
      cu := { s.cu with pos := clampPt p, edge := clampEdge p, inRange := true }
      pane := { s.pane with flags := s.pane.flags ||| 0x040#9 }
      se := { s.se with motion := s.se.motion || decide (s.port.op = .active) } }) n (clampPt p) rfl hl hroom).trans ?_)
    by_cases hop : s.port.op = .active <;> simp [hout, hop]

/-- Settles O53. -/
theorem inputRows : Obligations.InputRows := by
  intro e rest s src cu act hsrc hcu hact
  rw [← sourceOf_eq] at hsrc
  have heffect := applySetInput_eq hsrc hcu
  refine ⟨fun h => ⟨fun hsame => ?_, fun hnew hstays => ?_, fun hnew hin hwas => ?_, fun hnew hout hwas => ?_⟩, fun h => ?_⟩
  · rw [if_pos hsame] at heffect
    exact h.exec_accepted (h.not_searchBound rfl) rfl heffect rfl
  · rw [if_neg hnew, setProximity_of_same (by rw [hcu]; exact hstays.symm)] at heffect
    exact h.exec_accepted (h.not_searchBound rfl) rfl heffect rfl
  · rw [if_neg hnew, decide_eq_true hin, setProximity_of_out (by rw [hcu]; exact hwas)] at heffect
    exact h.exec_accepted (h.not_searchBound rfl) rfl heffect (by simp)
  · have hnot : ¬ (src = .wheels ∨ src = .directed) := by
      obtain rfl | rfl := hout <;> decide
    rw [if_neg hnew, decide_eq_false hnot, setProximity_of_in (by rw [hcu]; exact hwas)] at heffect
    exact h.exec_accepted (h.not_searchBound rfl) rfl heffect (by simp)
  · have hmap : applySetButtons e s = ({ s with cu := { s.cu with
        map := #v[act (e.argU 0), act (e.argU 1), act (e.argU 2), act (e.argU 3)] } }, none) := by
      rw [hact]
      simp only [← actionOf_eq]
      rfl
    exact h.exec_accepted (h.not_searchBound rfl) rfl hmap rfl

/-- Settles O54: the requests are filed before or after the trigger of the proximity alike, and each trigger stands where it is
counted. -/
theorem cursorRow : Obligations.CursorRow := by
  intro e rest s v p l room h hp hl hroom hv
  have hmoved := fileCursor_moved (v := v) ⟨e.argS 0, e.argS 1⟩ (e.argU 2) rfl hl hroom
    (by rw [hv, hp, clampEdge_eq]; rfl)
  have hv_pos : v.cu.pos = p := by rw [hv]
  have hv_dir : v.dir = s.dir := by rw [hv]
  have hcu : ∀ x : State, (trigger x).cu = x.cu := by simp
  have heffect := fun hdirected => applySetCursor_of_directed (e := e) (s := s) hdirected
  dsimp only at heffect
  rw [hmoved] at heffect
  refine ⟨fun hsource => ?_, fun hdirected hstill hin => ?_, fun hdirected hone => ?_, fun hdirected hmove hout => ?_⟩
  · exact h.exec_refused (f := applySetCursor) (h.not_searchBound rfl) rfl (if_neg hsource)
  · have hx := heffect hdirected
    rw [if_pos hin, if_pos (hv_pos.trans hstill)] at hx
    exact h.exec_accepted (h.not_searchBound rfl) rfl hx (by rw [hv_dir])
  · have hx := heffect hdirected
    obtain ⟨hstill, hout⟩ | ⟨hmove, hin⟩ := hone
    · rw [hout, if_neg Bool.false_ne_true, hcu, if_pos (hv_pos.trans hstill)] at hx
      exact h.exec_accepted (h.not_searchBound rfl) rfl hx (by simp [hv_dir])
    · rw [if_pos hin, if_neg (by rwa [hv_pos])] at hx
      exact h.exec_accepted (h.not_searchBound rfl) rfl hx (by simp [hv_dir])
  · have hx := heffect hdirected
    rw [hout, if_neg Bool.false_ne_true, hcu, if_neg (by rwa [hv_pos])] at hx
    exact h.exec_accepted (h.not_searchBound rfl) rfl hx (by simp [hv_dir])

end Sys2Proof.Machine

/-! PROOFS. How a STROKE read is answered (chapters 7 and 9), and the statements on reads outside ACTIVE, on the preview window
and on the loss of track. -/

namespace Sys2Proof.Machine

variable {s t u r q : State} {a : Addr} {mem w : Word} {m : RegionMap}

/-! ### Addresses (R16, R147, R149) -/

theorem paneIndex_eq_some_iff {strap : BitVec 6} {k : Nat} : paneIndex strap a = some k ↔
    strap ≠ 63#6 ∧ k < 64 ∧ a.toNat = strap.toNat * 0x4000 + 0x80 + k := by
  unfold paneIndex strapOffset strapBase
  by_cases hs : strap = 63#6
  · simp [hs]
  · rw [if_neg hs, Option.bind_some]
    simp only [ne_eq, hs, not_false_eq_true, true_and]
    split
    · rw [Option.bind_some]
      split
      · simp only [Option.some.injEq]
        constructor <;> omega
      · simp only [reduceCtorEq, false_iff]
        omega
    · simp only [Option.bind_none, reduceCtorEq, false_iff]
      omega

theorem paneIndex_eq_none_iff {strap : BitVec 6} : paneIndex strap a = none ↔
    ¬ (InStrapBlock strap a.toNat ∧ strap.toNat * 0x4000 + 0x80 ≤ a.toNat) := by
  rw [Option.eq_none_iff_forall_not_mem]
  simp only [Option.mem_def, paneIndex_eq_some_iff, InStrapBlock]
  constructor
  · rintro h ⟨⟨hs, hle, hlt⟩, hge⟩
    exact h (a.toNat - (strap.toNat * 0x4000 + 0x80)) ⟨hs, by omega, by omega⟩
  · rintro h k ⟨hs, hk, ha⟩
    exact h ⟨⟨hs, by omega, by omega⟩, by omega⟩

theorem Placed.windowOffset_eq_some_iff (h : Placed m s) {k : Nat} :
    windowOffset s a = some k ↔ k < m.windowLen ∧ a.toNat = m.windowBase.toNat + k := by
  rw [windowOffset, h.held, Option.bind_some, RegionMap.windowOffset]
  split
  · simp only [Option.some.injEq]
    omega
  · simp only [reduceCtorEq, false_iff]
    omega

theorem Placed.windowOffset_eq_none_iff (h : Placed m s) : windowOffset s a = none ↔ ¬ m.InWindow a.toNat := by
  rw [windowOffset, h.held, Option.bind_some, RegionMap.windowOffset, RegionMap.InWindow]
  simp

theorem Placed.inRegions_iff (h : Placed m s) : inRegions s a = true ↔ InRegions m s a := by
  rw [inRegions, Bool.or_eq_true, InRegions, Option.isSome_iff_ne_none, Option.isSome_iff_ne_none, ne_eq, ne_eq,
    h.windowOffset_eq_none_iff, paneIndex_eq_none_iff, not_not, not_not]

theorem Placed.not_pane_of_inWindow (h : Placed m s) (ha : m.InWindow a.toNat) : paneIndex s.port.strap a = none :=
  paneIndex_eq_none_iff.mpr fun hpane => h.fits.strapFree ⟨_, hpane.1, .inl ha⟩

theorem Placed.windowBase_inWindow (h : Placed m s) : m.InWindow m.windowBase.toNat := by
  obtain ⟨hlen, -⟩ := h.formed
  exact ⟨le_rfl, by omega⟩

/-! ### Outside ACTIVE (R149) -/

theorem answerOrForward_of_pane {k : Nat} (h : paneIndex s.port.strap a = some k) :
    execStrokeRead.answerOrForward a mem s = { s with bus := ⟨none, some (paneWord s k)⟩ } := by
  rw [execStrokeRead.answerOrForward, h]
  rfl

theorem answerOrForward_of_no_pane (h : paneIndex s.port.strap a = none) :
    execStrokeRead.answerOrForward a mem s = { s with bus := ⟨some (.read a), some mem⟩ } := by
  rw [execStrokeRead.answerOrForward, h]
  rfl

theorem exec_strokeRead_of_closed (hop : s.port.op = .disabled ∨ s.port.op = .transparent) :
    exec (.strokeRead a mem) s = .next { s with bus := ⟨some (.read a), some mem⟩ } := by
  change execStrokeRead a mem s = _
  obtain hcase | hcase := hop
  all_goals
    rw [execStrokeRead, hcase]
    rfl

theorem exec_strokeRead_of_observed (hop : s.port.op = .passive ∨ s.port.op = .bypass) :
    exec (.strokeRead a mem) s = .next (execStrokeRead.answerOrForward a mem s) := by
  change execStrokeRead a mem s = _
  obtain hcase | hcase := hop
  all_goals rw [execStrokeRead, hcase]

/-- Settles O20. -/
theorem strokeReadOutsideActive : Obligations.StrokeReadOutsideActive := by
  intro a mem s hop
  refine ⟨fun k hk hobs hs ha => ?_, fun hforward => ?_⟩
  · rw [exec_strokeRead_of_observed hobs, answerOrForward_of_pane (paneIndex_eq_some_iff.mpr ⟨hs, hk, ha⟩)]
  · by_cases hclosed : s.port.op = .disabled ∨ s.port.op = .transparent
    · exact exec_strokeRead_of_closed hclosed
    · have hobs : s.port.op = .passive ∨ s.port.op = .bypass := by
        cases hcase : s.port.op <;> simp_all
      have hnone : paneIndex s.port.strap a = none := paneIndex_eq_none_iff.mpr fun ⟨hin, hge⟩ => by
        obtain hcase | hcase | hout | hlt := hforward
        · exact hclosed (.inl hcase)
        · exact hclosed (.inr hcase)
        · exact hout hin
        · omega
      rw [exec_strokeRead_of_observed hobs, answerOrForward_of_no_pane hnone]

/-! ### The early freeze (R131, R144) -/

theorem freezeHits_of_no_watch (h : NoFreezeWatch a s) : freezeHits a s = false := by
  have hmiss : ∀ x, x = s.flt.watches.e0 ∨ x = s.flt.watches.e1 → (x.hits a && decide (x.action = .freeze)) = false := by
    intro x hx
    have hnone := h x hx
    rw [hits_eq_decide, ← Bool.decide_and, decide_eq_false_iff_not]
    exact fun hall => hnone ⟨hall.1.1, hall.1.2, hall.2⟩
  rw [freezeHits_eq, hmiss _ (.inl rfl), hmiss _ (.inr rfl)]
  rfl

theorem chooseFreeze_of_no_watch (h : NoFreezeWatch a s) : chooseFreeze a s = s := by
  rw [chooseFreeze, freezeMeets, freezeHits_of_no_watch h]
  rfl

theorem Placed.chooseFreeze_of_ne (h : Placed m s) (hwindow : a ≠ m.windowBase) (hlist : a ≠ m.listBase) :
    chooseFreeze a s = s := by
  have hmeet : freezeMeets a s = false := by
    rw [freezeMeets, h.held]
    simp [hwindow.symm, hlist.symm]
  rw [chooseFreeze, hmeet]
  rfl

/-- The early freeze moves the frozen condition and the choice counter alone. -/
theorem chooseFreeze_pat (a : Addr) (s : State) :
    (chooseFreeze a s).pat = { s.pat with frozen := (chooseFreeze a s).pat.frozen } := by
  unfold chooseFreeze
  split
  · split <;> rfl
  · rfl

/-! ### The answer in ACTIVE (R127 to R130, R150) -/

theorem Placed.strokeAnswer_of_window (h : Placed m s) {k : Nat} (hk : k < m.windowLen)
    (ha : a.toNat = m.windowBase.toNat + k) :
    strokeAnswer a mem s = answerRead (strokeWindow k s).2 (strokeWindow k s).1 := by
  rw [strokeAnswer, h.windowOffset_eq_some_iff.mpr ⟨hk, ha⟩]

theorem Placed.strokeAnswer_of_pane (h : Placed m s) {k : Nat} (hpane : paneIndex s.port.strap a = some k) :
    strokeAnswer a mem s = answerRead (paneWord s k) (leaveWindow s) := by
  have hout : windowOffset s a = none := by
    rw [h.windowOffset_eq_none_iff]
    intro hin
    rw [h.not_pane_of_inWindow hin] at hpane
    exact nomatch hpane
  rw [strokeAnswer, hout, hpane]

theorem Placed.strokeAnswer_of_outside (h : Placed m s) (hout : ¬ InRegions m s a) :
    strokeAnswer a mem s = forwardRead a mem (leaveWindow s) := by
  rw [InRegions, not_or] at hout
  rw [strokeAnswer, h.windowOffset_eq_none_iff.mpr hout.1, paneIndex_eq_none_iff.mpr hout.2]

/-- The WINDOW faults of a read of the window (R129, R130). -/
def windowFaults (k : Nat) (list : Composed) (entered : Bool) : List Raised :=
  if k ≠ 0 ∧ entered = false then [⟨.windowEntry, BitVec.ofNat 20 k, 0⟩]
  else if list.words.length ≤ k then [⟨.windowOverread, BitVec.ofNat 20 k, 0⟩] else []

theorem windowFaults_class {k : Nat} {list : Composed} {entered : Bool} :
    ∀ f ∈ windowFaults k list entered, f.code.classNumber = 5 := by
  intro f hf
  unfold windowFaults at hf
  split at hf
  · rw [List.mem_singleton.mp hf]
    rfl
  · split at hf
    · rw [List.mem_singleton.mp hf]
      rfl
    · exact nomatch hf

/-- The list that a read at offset k is answered from (R127). -/
def servedList (k : Nat) (s : State) : Composed :=
  if k = 0 ∧ s.pat.frozen = false then s.comp.staged else s.comp.serving

theorem wordOr_of_ge {c : Composed} {k : Nat} (h : c.words.length ≤ k) : c.wordOr k = returnWord := by
  rw [Composed.wordOr, List.getElem?_eq_none h]
  rfl

theorem getElem?_eq_wordOr {c : Composed} {k : Nat} (h : k < c.words.length) : c.words[k]? = some (c.wordOr k) := by
  rw [Composed.wordOr, List.getElem?_eq_getElem h]
  rfl

theorem latchWindow_eq (s : State) :
    latchWindow s = { s with comp := { s.comp with serving := servedList 0 s, entered := true } } := by
  unfold latchWindow servedList
  cases s.pat.frozen <;> rfl

/-- A read of a window that is entered is answered from the serving list, with WINDOW OVERREAD past its end. -/
theorem strokeWindow_of_entered {k : Nat} (hk : k ≠ 0) (h : s.comp.entered = true) : strokeWindow k s =
    (if k < s.comp.serving.words.length then (s, s.comp.serving.wordOr k)
      else (raise .windowOverread (BitVec.ofNat 20 k) 0 s, returnWord)) := by
  rw [strokeWindow, if_pos (.inr h), if_neg hk]
  rfl

theorem strokeWindow_zero (s : State) : strokeWindow 0 s =
    (if 0 < (servedList 0 s).words.length then (latchWindow s, (servedList 0 s).wordOr 0)
      else (raise .windowOverread 0 0 (latchWindow s), returnWord)) := by
  rw [strokeWindow, if_pos (.inl rfl), if_pos rfl, latchWindow_eq]
  rfl

theorem strokeWindow_of_not_entered {k : Nat} (hk : k ≠ 0) (h : s.comp.entered = false) : strokeWindow k s =
    (raise .windowEntry (BitVec.ofNat 20 k) 0 { s with comp := { s.comp with entered := true } },
      s.comp.serving.wordOr k) :=
  if_neg (by simp [hk, h])

theorem servedList_of_ne {k : Nat} (hk : k ≠ 0) : servedList k s = s.comp.serving :=
  if_neg fun h => hk h.1

/-- A read of the window: the list it is answered from, window entered, and its faults. -/
theorem strokeWindow_eq (k : Nat) (s : State) : strokeWindow k s =
    ({ s with
        comp := { s.comp with serving := servedList k s, entered := true }
        flt := { s.flt with raised := s.flt.raised ++ windowFaults k (servedList k s) s.comp.entered } },
      (servedList k s).wordOr k) := by
  unfold windowFaults
  by_cases hk : k = 0
  · subst hk
    rw [strokeWindow_zero, latchWindow_eq]
    split
    · next hlt => simp [Nat.not_le.mpr hlt]
    · next hge =>
      have hle := Nat.le_of_not_lt hge
      rw [wordOr_of_ge hle]
      simp [hle, raise]
  · rw [servedList_of_ne hk]
    cases hin : s.comp.entered with
    | false =>
      rw [strokeWindow_of_not_entered hk hin]
      simp [hk, raise]
    | true =>
      have hkeep : s = { s with comp := { s.comp with entered := true } } := by rw [← hin]
      rw [strokeWindow_of_entered hk hin]
      split
      · next hlt =>
        simp only [hk, ne_eq, not_false_eq_true, reduceCtorEq, and_false, if_false, Nat.not_le.mpr hlt, List.append_nil]
        exact congrArg (·, _) hkeep
      · next hge =>
        have hle := Nat.le_of_not_lt hge
        rw [wordOr_of_ge hle]
        simp [hle, raise, ← hin]

/-- What a STROKE read in ACTIVE is answered, and the state as the tracker sees it. -/
structure Answered (m : RegionMap) (a : Addr) (s r : State) : Prop where
  trk : r.trk = s.trk
  hv : r.hv = s.hv
  port : r.port = s.port
  upstream : r.bus.upstream.isSome = true
  faults : ∃ v, r.flt = { s.flt with raised := s.flt.raised ++ v } ∧ (∀ f ∈ v, f.code.classNumber = 5)
    ∧ (¬ m.InWindow a.toNat → v = [])

theorem Placed.answered (h : Placed m s) : Answered m a s (strokeAnswer a mem s) := by
  refine ⟨by simp, by simp, by simp, ?_, ?_⟩
  · unfold strokeAnswer
    split
    · rfl
    · split <;> rfl
  · by_cases hin : m.InWindow a.toNat
    · obtain ⟨hle, hlt⟩ := hin
      obtain ⟨k, hk⟩ := Nat.exists_eq_add_of_le hle
      rw [h.strokeAnswer_of_window (by omega) hk, strokeWindow_eq]
      exact ⟨_, rfl, windowFaults_class, fun hn => absurd ⟨hle, hlt⟩ hn⟩
    · refine ⟨[], ?_, by simp, fun _ => rfl⟩
      rw [List.append_nil, strokeAnswer, h.windowOffset_eq_none_iff.mpr hin]
      dsimp only
      split <;> rfl

/-! ### What the tracker makes of the queue and the faults -/

/-- `u` is to `r` as `q` is to `s` in the harvest queue, the banks and the faults raised. -/
structure SameArrivals (s q r u : State) : Prop where
  hv : u.hv = q.hv
  raised : ∃ l, q.flt.raised = s.flt.raised ++ l ∧ u.flt.raised = r.flt.raised ++ l

theorem SameArrivals.of_quiet (hr : r.hv = s.hv) (hhv : u.hv = r.hv) (hflt : u.flt = r.flt) : SameArrivals s s r u :=
  ⟨hhv.trans hr, [], (List.append_nil _).symm, by rw [hflt, List.append_nil]⟩

theorem sameArrivals_queueItem (hr : r.hv = s.hv) (it : QItem) : SameArrivals s (queueItem it s) r (queueItem it r) := by
  obtain ⟨hhv, l, hq, hu, -⟩ := queueItem_congr hr.symm it
  exact ⟨hhv.symm, l, hq, hu⟩

theorem sameArrivals_queueMarker (hr : r.hv = s.hv) (it : QItem) :
    SameArrivals s (queueMarker it s) r (queueMarker it r) := by
  obtain ⟨hhv, l, hq, hu, -⟩ := queueMarker_congr hr.symm it
  exact ⟨hhv.symm, l, hq, hu⟩

theorem Answered.leaves (h : Answered m a s r) (hu : SameArrivals s q r u) (ht : t.hv = u.hv)
    (htf : t.flt.raised = u.flt.raised) : Leaves m a s q t := by
  obtain ⟨v, hflt, hclass, hout⟩ := h.faults
  obtain ⟨hhv, l, hq, hur⟩ := hu
  refine ⟨ht.trans hhv, v, l, hq, ?_, hclass, hout⟩
  rw [htf, hur, hflt]

theorem exec_strokeRead_of_placed (h : Placed m s) (hop : s.port.op = .active) : exec (.strokeRead a mem) s =
    .next (matchWatches a (trackRead m.listBase a ((strokeAnswer a mem (chooseFreeze a s)).bus.upstream.getD 0)
      (strokeAnswer a mem (chooseFreeze a s)))) := by
  have hheld : (strokeAnswer a mem (chooseFreeze a s)).port.config = some m := by simpa using h.held
  rw [exec_strokeRead_of_active hop, copyToTracker, hheld]

/-! ### A read off the list base (R13 to R15, R128) -/

theorem loseTrack_hv_flt (c : FaultCode) (a : Addr) (s : State) :
    (loseTrack c a s).hv = (discardOpenFrame (raise c a 0 s)).hv
    ∧ (loseTrack c a s).flt = (discardOpenFrame (raise c a 0 s)).flt := ⟨rfl, rfl⟩

theorem queueMarker_of_room {it : QItem} (h : geometryCount s.hv.queue < 16) :
    queueMarker it s = { s with hv := { s.hv with queue := s.hv.queue ++ [it] } } := if_pos h

theorem queueItem_of_room {it : QItem} (h : geometryCount s.hv.queue < 16) :
    queueItem it s = { s with hv := { s.hv with queue := s.hv.queue ++ [it] } } := if_pos h

/-- Off the list base the tracker moves neither the composer nor the counters. -/
theorem trackRead_comp_pat {l : Addr} (hne : a ≠ l) (w : Word) (s : State) :
    (trackRead l a w s).comp = s.comp ∧ (trackRead l a w s).pat = s.pat := by
  unfold trackRead
  split
  · exact ⟨rfl, rfl⟩
  · rw [if_neg hne]
    exact ⟨rfl, rfl⟩
  · rw [if_neg hne]
    exact ⟨rfl, rfl⟩
  · rw [if_neg hne]
    split <;> simp

theorem loseTrack_raised (c : FaultCode) (a : Addr) (s : State) :
    ∃ l, (loseTrack c a s).flt.raised = s.flt.raised ++ [⟨c, a, 0⟩] ++ l := by
  rw [(loseTrack_hv_flt c a s).2, discardOpenFrame]
  split
  · obtain ⟨-, l, hl, -⟩ := queueMarker_congr (x := raise c a 0 s) rfl .discard
    exact ⟨l, hl⟩
  · exact ⟨[], (List.append_nil _).symm⟩

/-- The loss of track by the read at hand, told by the state before it. -/
theorem Answered.losesTrack {c : FaultCode} {b : Bool} {last : Addr} (h : Answered m a s r)
    (hk : u = { r with trk := { r.trk with lastWord := last, inWindow := b } })
    (ht : t.hv = (loseTrack c a u).hv) (htf : t.flt.raised = (loseTrack c a u).flt.raised)
    (htrk : t.trk = (loseTrack c a u).trk) : LosesTrack m c a last s t := by
  have huhv : u.hv = s.hv := by rw [hk, ← h.hv]
  have huopen : u.trk.frameOpen = s.trk.frameOpen := by rw [hk, ← h.trk]
  have hutrk : u.trk = { s.trk with lastWord := last, inWindow := b } := by rw [hk, ← h.trk]
  have hraise : (raise c a 0 u).hv = s.hv := huhv
  have hdiscard : u.trk.frameOpen = true → discardOpenFrame (raise c a 0 u) = queueMarker .discard (raise c a 0 u) :=
    fun hopen => if_pos hopen
  have hquiet : u.trk.frameOpen = false → discardOpenFrame (raise c a 0 u) = raise c a 0 u :=
    fun hclosed => if_neg (by rw [raise_trk, hclosed]; exact Bool.false_ne_true)
  have hmarker : u.trk.frameOpen = true → t.hv = (queueMarker .discard s).hv := fun hopen => by
    rw [ht, (loseTrack_hv_flt c a u).1, hdiscard hopen]
    exact (queueMarker_congr hraise .discard).1
  have hleaves : ∀ q, q = { s with flt := { s.flt with raised := s.flt.raised ++ [⟨c, a, 0⟩] } } →
      SameArrivals s (if s.trk.frameOpen then queueMarker .discard q else q) r (loseTrack c a u) := by
    rintro q rfl
    have hflt : u.flt = r.flt := by rw [hk]
    have hx : (raise c a 0 u).hv = ({ s with flt := { s.flt with raised := s.flt.raised ++ [⟨c, a, 0⟩] } } : State).hv := huhv
    obtain ⟨hmarker, l, hl, hq, -⟩ := queueMarker_congr hx .discard
    cases hopen : s.trk.frameOpen with
    | true =>
      have hu := hdiscard (huopen.trans hopen)
      refine ⟨by rw [(loseTrack_hv_flt c a u).1, hu]; exact hmarker, [⟨c, a, 0⟩] ++ l, ?_, ?_⟩
      · rw [← List.append_assoc]
        exact hq
      · rw [← List.append_assoc, (loseTrack_hv_flt c a u).2, hu, hl, ← hflt]
        rfl
    | false =>
      have hu := hquiet (huopen.trans hopen)
      refine ⟨by rw [(loseTrack_hv_flt c a u).1, hu]; exact hx, [⟨c, a, 0⟩], rfl, ?_⟩
      rw [(loseTrack_hv_flt c a u).2, hu, ← hflt]
      rfl
  refine ⟨?_, ?_, fun hclosed => ?_, fun hopen => ?_, fun hopen hroom => ?_, fun q hq => h.leaves (hleaves q hq) ht htf⟩
  · rw [htrk, loseTrack_trk, hutrk]
    rfl
  · obtain ⟨l, hl⟩ := loseTrack_raised c a u
    rw [htf, hl]
    simp
  · rw [ht, (loseTrack_hv_flt c a u).1, hquiet (huopen.trans hclosed)]
    exact hraise
  · exact hmarker (huopen.trans hopen)
  · rw [hmarker (huopen.trans hopen), queueMarker_of_room hroom]

theorem flt_eq_of_keeps (h : t.flt.last = s.flt.last ∧ t.flt.seq = s.flt.seq ∧ t.flt.stopCause = s.flt.stopCause
    ∧ t.flt.latch = s.flt.latch ∧ t.flt.responses = s.flt.responses ∧ t.flt.watches = s.flt.watches) :
    t.flt = { s.flt with raised := t.flt.raised, locates := t.flt.locates } := by
  obtain ⟨hlast, hseq, hstop, hlatch, hresponses, hwatches⟩ := h
  dsimp only
  rw [← hlast, ← hseq, ← hstop, ← hlatch, ← hresponses, ← hwatches]

theorem pane_eq_of_keeps (h : t.pane.mask = s.pane.mask ∧ t.pane.resultLatch = s.pane.resultLatch
    ∧ t.pane.commitLatch = s.pane.commitLatch ∧ t.pane.peekLatch = s.pane.peekLatch ∧ t.pane.peek = s.pane.peek) :
    t.pane = { s.pane with flags := t.pane.flags } := by
  obtain ⟨hmask, hresult, hcommit, hlatch, hpeek⟩ := h
  dsimp only
  rw [← hmask, ← hresult, ← hcommit, ← hlatch, ← hpeek]

/-- How a read off the list base is answered, whatever the tracker does with it. -/
theorem Placed.readAnswered (h : Placed m s) (hne : a ≠ m.listBase) (w : Word) : ReadAnswered m a mem s
    (matchWatches a (trackRead m.listBase a w (strokeAnswer a mem (chooseFreeze a s)))) := by
  have hp : Placed m (chooseFreeze a s) := ⟨by simpa using h.held, h.formed, by simpa using h.fits⟩
  obtain ⟨hcomp, hpat⟩ := trackRead_comp_pat hne w (strokeAnswer a mem (chooseFreeze a s))
  have hbus : (matchWatches a (trackRead m.listBase a w (strokeAnswer a mem (chooseFreeze a s)))).bus =
      (strokeAnswer a mem (chooseFreeze a s)).bus := by simp
  have htcomp : (matchWatches a (trackRead m.listBase a w (strokeAnswer a mem (chooseFreeze a s)))).comp =
      (strokeAnswer a mem (chooseFreeze a s)).comp := by simp [hcomp]
  refine ⟨fun k hk hs ha => ?_, fun hout => ?_, fun hin => ?_, fun hout => ?_, ?_, fun hbase => ?_, ?_, ?_, by simp⟩
  · have hpane := paneIndex_eq_some_iff.mpr ⟨hs, hk, ha⟩
    have hkeep : chooseFreeze a s = s := h.chooseFreeze_of_ne (fun heq => by
      have hnone := h.not_pane_of_inWindow (a := a) (heq ▸ h.windowBase_inWindow)
      rw [hnone] at hpane
      exact nomatch hpane) hne
    rw [hbus, hkeep, h.strokeAnswer_of_pane hpane]
    rfl
  · rw [hbus, hp.strokeAnswer_of_outside (by simpa [InRegions] using hout)]
    rfl
  · obtain ⟨hle, hlt⟩ := hin
    obtain ⟨k, hk⟩ := Nat.exists_eq_add_of_le hle
    rw [hbus, htcomp, hp.strokeAnswer_of_window (by omega) hk, strokeWindow_eq]
    exact ⟨rfl, by simp [answerRead, setBus]⟩
  · rw [htcomp, strokeAnswer, hp.windowOffset_eq_none_iff.mpr hout]
    dsimp only
    split <;> simp [answerRead, forwardRead, setBus, leaveWindow]
  · rw [matchWatches_eq]
    dsimp only
    rw [hpat]
    simp only [strokeAnswer_frame]
    rw [chooseFreeze_pat]
  · have hkeep := h.chooseFreeze_of_ne hbase hne
    simp [hkeep]
  · exact flt_eq_of_keeps (by simp)
  · exact pane_eq_of_keeps (by simp)

theorem Placed.afterFreeze (h : Placed m s) : Placed m (Machine.chooseFreeze a s) :=
  ⟨by simpa using h.held, h.formed, by simpa using h.fits⟩

theorem Answered.of_chooseFreeze (h : Answered m a (chooseFreeze a s) r) : Answered m a s r := by
  obtain ⟨htrk, hhv, hport, hup, hfaults⟩ := h
  exact ⟨by simpa using htrk, by simpa using hhv, by simpa using hport, hup, by simpa using hfaults⟩

/-- Settles O22. -/
theorem trackLost : Obligations.TrackLost := by
  intro m a mem s h hop hne
  have hr : Answered m a s (strokeAnswer a mem (chooseFreeze a s)) := (h.afterFreeze.answered).of_chooseFreeze
  refine ⟨_, exec_strokeRead_of_placed h hop, fun hidle => ?_, fun htracking hoff => ?_, h.readAnswered hne _⟩
  · have hkeep : ∀ w, trackRead m.listBase a w (strokeAnswer a mem (chooseFreeze a s)) =
        strokeAnswer a mem (chooseFreeze a s) := by
      intro w
      unfold trackRead
      rw [hr.trk]
      cases hstate : s.trk.state with
      | halted => rfl
      | waiting | lost => exact if_neg hne
      | tracking => exact absurd hstate hidle
    rw [hkeep]
    exact ⟨by simp, hr.leaves (.of_quiet hr.hv rfl rfl) (by simp) (by simp)⟩
  · have hlose : ∀ w, trackRead m.listBase a w (strokeAnswer a mem (chooseFreeze a s)) =
        loseTrack .trackLost a (strokeAnswer a mem (chooseFreeze a s)) := by
      intro w
      unfold trackRead
      rw [hr.trk, htracking]
      dsimp only
      rw [if_neg hne, if_pos hoff]
    rw [hlose]
    have hlost := hr.losesTrack (c := .trackLost) (b := s.trk.inWindow) (last := s.trk.lastWord)
      (u := strokeAnswer a mem (chooseFreeze a s)) (by rw [← hr.trk])
      (t := matchWatches a (loseTrack .trackLost a (strokeAnswer a mem (chooseFreeze a s)))) (by simp) (by simp) (by simp)
    refine ⟨hlost, fun hroom hout => ?_⟩
    obtain ⟨v, l, hl, ht, -, hv⟩ := (hlost.leaves _ rfl).raised
    have hraised : s.flt.raised ++ [⟨.trackLost, a, 0⟩] = s.flt.raised ++ l := by
      rw [← hl]
      obtain hclosed | hroom := hroom
      · rw [hclosed]
        rfl
      · rw [queueMarker_of_room (by exact hroom)]
        split <;> rfl
    rw [ht, hv hout, List.append_nil, hraised]

/-! ### The faults of the tracker are of other classes than WINDOW -/

/-- `u` has `r`'s faults and further ones, none of them a WINDOW fault. -/
def AddsNoWindowFault (r u : State) : Prop :=
  ∃ l, u.flt.raised = r.flt.raised ++ l ∧ ∀ f ∈ l, f.code.classNumber ≠ 5

theorem AddsNoWindowFault.of_eq (h : u.flt = r.flt) : AddsNoWindowFault r u :=
  ⟨[], by rw [h, List.append_nil], by simp⟩

theorem AddsNoWindowFault.trans (hr : AddsNoWindowFault s r) (hu : AddsNoWindowFault r u) : AddsNoWindowFault s u := by
  obtain ⟨k, hk, hkclass⟩ := hr
  obtain ⟨l, hl, hlclass⟩ := hu
  refine ⟨k ++ l, by rw [hl, hk, List.append_assoc], fun f hf => ?_⟩
  exact (List.mem_append.mp hf).elim (hkclass f) (hlclass f)

theorem addsNoWindowFault_of_overrun {l : List Raised} (h : u.flt.raised = r.flt.raised ++ l)
    (hl : ∀ f ∈ l, f.code = .queueOverrun) : AddsNoWindowFault r u :=
  ⟨l, h, fun f hf => by rw [hl f hf]; decide⟩

theorem addsNoWindowFault_queueItem (it : QItem) (s : State) : AddsNoWindowFault s (queueItem it s) := by
  obtain ⟨-, l, hl, -, hclass⟩ := queueItem_congr (rfl : s.hv = s.hv) it
  exact addsNoWindowFault_of_overrun hl hclass

theorem addsNoWindowFault_queueMarker (it : QItem) (s : State) : AddsNoWindowFault s (queueMarker it s) := by
  obtain ⟨-, l, hl, -, hclass⟩ := queueMarker_congr (rfl : s.hv = s.hv) it
  exact addsNoWindowFault_of_overrun hl hclass

theorem addsNoWindowFault_loseTrack {c : FaultCode} (hc : c.classNumber ≠ 5) (a : Addr) (s : State) :
    AddsNoWindowFault s (loseTrack c a s) := by
  have hraise : AddsNoWindowFault s (raise c a 0 s) := ⟨_, rfl, fun f hf => by rw [List.mem_singleton.mp hf]; exact hc⟩
  refine hraise.trans (u := loseTrack c a s) ?_
  have hdiscard : AddsNoWindowFault (raise c a 0 s) (discardOpenFrame (raise c a 0 s)) := by
    unfold discardOpenFrame
    split
    · exact addsNoWindowFault_queueMarker ..
    · exact .of_eq rfl
  exact hdiscard

theorem addsNoWindowFault_takeHead (l a : Addr) (w : Word) (s : State) : AddsNoWindowFault s (takeHead l a w s) := by
  unfold takeHead
  cases decodeHead w
  case draw p =>
    unfold applyDraw
    dsimp only
    split
    · exact addsNoWindowFault_queueItem ..
    · exact .of_eq rfl
  case call =>
    dsimp only
    split
    · exact .of_eq rfl
    · exact addsNoWindowFault_loseTrack (by decide) ..
  case ret =>
    dsimp only
    unfold applyReturn
    split
    · exact addsNoWindowFault_loseTrack (by decide) ..
    · exact .of_eq rfl
  case frame => exact addsNoWindowFault_queueMarker ..
  case unknown => exact addsNoWindowFault_loseTrack (by decide) ..
  all_goals exact .of_eq rfl

theorem addsNoWindowFault_takeWord (l a : Addr) (w : Word) (s : State) : AddsNoWindowFault s (takeWord l a w s) := by
  unfold takeWord
  dsimp only
  split
  · exact addsNoWindowFault_takeHead ..
  · unfold applyCircle
    dsimp only
    split
    · exact addsNoWindowFault_queueItem ..
    · exact .of_eq rfl
  · exact .of_eq rfl
  · exact .of_eq rfl

theorem addsNoWindowFault_trackRead {l : Addr} (hne : a ≠ l) (w : Word) (s : State) :
    AddsNoWindowFault s (trackRead l a w s) := by
  unfold trackRead
  split
  · exact .of_eq rfl
  · rw [if_neg hne]
    exact .of_eq rfl
  · rw [if_neg hne]
    exact .of_eq rfl
  · rw [if_neg hne]
    split
    · exact addsNoWindowFault_loseTrack (by decide) ..
    · exact addsNoWindowFault_takeWord ..

/-- Settles O25. -/
theorem windowServed : Obligations.WindowServed := by
  intro m a k mem s list h hop hwatch hk ha hlist
  obtain rfl : list = servedList k s := hlist
  have hin : m.InWindow a.toNat := by
    rw [ha]
    exact ⟨Nat.le_add_right _ _, Nat.add_lt_add_left hk _⟩
  have hne : a ≠ m.listBase := fun heq => h.fits.listOutside.1 (heq ▸ hin)
  have hexec := exec_strokeRead_of_placed (a := a) (mem := mem) h hop
  rw [chooseFreeze_of_no_watch hwatch, h.strokeAnswer_of_window hk ha, strokeWindow_eq] at hexec
  generalize hr : answerRead _ _ = r at hexec
  obtain ⟨hcomp, -⟩ := trackRead_comp_pat hne (r.bus.upstream.getD 0) r
  obtain ⟨l, hl, hclass⟩ := addsNoWindowFault_trackRead hne (r.bus.upstream.getD 0) r
  have hbus : r.bus = ⟨none, some ((servedList k s).wordOr k)⟩ := by rw [← hr]; rfl
  refine ⟨_, hexec, ?_, fun hlt => ?_, fun hge => ?_, ⟨l, ?_, hclass⟩, ?_⟩
  · rw [(matchWatches_frame ..).2.2.2.2.2.2.2.1, hcomp, ← hr]
    rfl
  · rw [(matchWatches_frame ..).2.1, (trackRead_frame ..).2.1, hbus, getElem?_eq_wordOr hlt]
  · rw [(matchWatches_frame ..).2.1, (trackRead_frame ..).2.1, hbus, wordOr_of_ge hge]
    rfl
  · simp only [matchWatches_keeps]
    rw [hl, ← hr]
    rfl
  · simp [← hr, answerRead]

end Sys2Proof.Machine

/-! PROOFS. The words of the records (chapter 1): what the tracker, the harvest queue and the faults make of each word taken. -/

namespace Sys2Proof.Machine

variable {s t u r q : State} {a : Addr} {mem w : Word} {m : RegionMap}

/-! ### Head words (R2, 13.1) -/

theorem headPoint_eq (w : Word) : headPoint w = ⟨(w.extractLsb' 12 12).toNat, (w.extractLsb' 0 12).toNat⟩ := by
  rw [headPoint, toNat_extractLsb', toNat_extractLsb']

theorem headTarget_eq (w : Word) : headTarget w = w.extractLsb' 0 20 := ofNat_bitsOf 0 20

theorem headAttr_eq (w : Word) : headAttr w = ⟨w.extractLsb' 24 3, w.getLsbD 16, w.extractLsb' 0 16⟩ := by
  rw [headAttr, ofNat_bitsOf, ofNat_bitsOf, bit_eq_one_iff]

theorem callOffset_eq (w : Word) : callOffset w = ⟨(w.extractLsb' 16 13).toInt, (w.extractLsb' 0 13).toInt⟩ := by
  rw [callOffset, toInt_extractLsb' _ _ (by decide), toInt_extractLsb' _ _ (by decide)]

theorem circleRadius_eq (w : Word) : circleRadius w = (w.extractLsb' 0 12).toNat := by
  rw [circleRadius, toNat_extractLsb']

theorem bitsOf_kind {k : BitVec 4} (hk : w.extractLsb' 28 4 = k) : bitsOf w 28 4 = k.toNat := by
  rw [← hk, toNat_extractLsb']

theorem decodeHead_of_skip (hk : w.extractLsb' 28 4 = 0#4) : decodeHead w = .skip := by
  rw [decodeHead, bitsOf_kind hk]
  rfl

theorem decodeHead_of_move (hk : w.extractLsb' 28 4 = 1#4) : decodeHead w = .move (headPoint w) := by
  rw [decodeHead, bitsOf_kind hk]
  rfl

theorem decodeHead_of_draw (hk : w.extractLsb' 28 4 = 2#4) : decodeHead w = .draw (headPoint w) := by
  rw [decodeHead, bitsOf_kind hk]
  rfl

theorem decodeHead_of_circle (hk : w.extractLsb' 28 4 = 3#4) : decodeHead w = .circle (headPoint w) := by
  rw [decodeHead, bitsOf_kind hk]
  rfl

theorem decodeHead_of_label (hk : w.extractLsb' 28 4 = 4#4) : decodeHead w = .label (bitsOf w 0 8) := by
  rw [decodeHead, bitsOf_kind hk]
  rfl

theorem decodeHead_of_entity (hk : w.extractLsb' 28 4 = 5#4) : decodeHead w = .entity (headAttr w) := by
  rw [decodeHead, bitsOf_kind hk]
  rfl

theorem decodeHead_of_call (hk : w.extractLsb' 28 4 = 6#4) : decodeHead w = .call (headTarget w) := by
  rw [decodeHead, bitsOf_kind hk]
  rfl

theorem decodeHead_of_ret (hk : w.extractLsb' 28 4 = 7#4) : decodeHead w = .ret := by
  rw [decodeHead, bitsOf_kind hk]
  rfl

theorem decodeHead_of_jump (hk : w.extractLsb' 28 4 = 8#4) : decodeHead w = .jump (headTarget w) := by
  rw [decodeHead, bitsOf_kind hk]
  rfl

theorem decodeHead_of_frame (hk : w.extractLsb' 28 4 = 9#4) : decodeHead w = .frame := by
  rw [decodeHead, bitsOf_kind hk]
  rfl

theorem decodeHead_of_unassigned (hk : 10 ≤ (w.extractLsb' 28 4).toNat) : decodeHead w = .unknown := by
  rw [toNat_extractLsb'] at hk
  unfold decodeHead
  split
  case h_11 => rfl
  all_goals omega

theorem label_record_eq (w : Word) (a : Addr) :
    (if bitsOf w 0 8 = 0 then none else some (Partial.label a ((bitsOf w 0 8 + 3) / 4))) =
      if w.extractLsb' 0 8 = 0 then none else some (.label a (((w.extractLsb' 0 8).toNat + 3) / 4)) := by
  rw [toNat_extractLsb']
  refine if_congr ?_ rfl rfl
  rw [← toNat_extractLsb', BitVec.toNat_eq]
  rfl

/-! ### A word of a TRACKING tracker -/

/-- The tracker as it takes a word at `a`: its address is the last word address, and IN-WINDOW is `b` (R3, R16). -/
def Tracker.reading (a : Addr) (b : Bool) (k : Tracker) : Tracker := { k with lastWord := a, inWindow := b }

theorem takeWord_of_none {l : Addr} (h : s.trk.record = none) :
    takeWord l a w s = takeHead l a w (setTrk { s.trk with lastWord := a } s) := by
  rw [takeWord]
  dsimp only
  rw [setTrk_trk, h]

theorem takeWord_of_circle {l head : Addr} {c : Pt} {iw : Bool} (h : s.trk.record = some (.circle head c iw)) :
    takeWord l a w s = applyCircle a head c iw w (setTrk { s.trk with lastWord := a } s) := by
  rw [takeWord]
  dsimp only
  rw [setTrk_trk, h]

theorem takeWord_of_call {l head target : Addr} (h : s.trk.record = some (.call head target)) :
    takeWord l a w s = applyCall head target w (setTrk { s.trk with lastWord := a } s) := by
  rw [takeWord]
  dsimp only
  rw [setTrk_trk, h]

theorem takeWord_of_label {l head : Addr} {n : Nat} (h : s.trk.record = some (.label head n)) :
    takeWord l a w s = setTrk { s.trk with
      lastWord := a, record := if n ≤ 1 then none else some (.label head (n - 1)), expected := a + 1 } s := by
  rw [takeWord]
  dsimp only
  rw [setTrk_trk, h]
  rfl

/-- Read at the expected address, a word is taken. -/
theorem Answered.trackRead_eq (hr : Answered m a s r) (h : Placed m s) {b : Bool} (hb : b = true ↔ InRegions m s a)
    (htracking : s.trk.state = .tracking) (hexp : a = s.trk.expected) (hne : a ≠ m.listBase) :
    trackRead m.listBase a w r = takeWord m.listBase a w (setTrk { s.trk with inWindow := b } r) := by
  have hmark : markInWindow a r = setTrk { s.trk with inWindow := b } r := by
    rw [markInWindow, hr.trk, inRegions_congr hr.port, Bool.eq_iff_iff.mpr (h.inRegions_iff.trans hb.symm)]
  unfold trackRead
  rw [hr.trk, htracking]
  dsimp only
  rw [if_neg hne, if_neg (not_not.mpr hexp), hmark]

theorem applyReturn_of_nil (h : s.trk.calls = []) : applyReturn a s = loseTrack .nestUnderflow a s := by
  rw [applyReturn, h]

theorem applyReturn_of_cons {c : CallEntry} {rest : List CallEntry} (h : s.trk.calls = c :: rest) : applyReturn a s =
    setTrk { s.trk with calls := rest, offset := c.offset, attr := c.attr, expected := c.ret } s := by
  rw [applyReturn, h]

theorem applyFrame_eq (l : Addr) (s : State) :
    applyFrame l s = setTrk { s.trk with frameOpen := false, expected := l } (queueMarker .endMark s) := by
  rw [applyFrame]
  simp only [queueMarker_frame]

theorem applyDraw_eq (a : Addr) (p : Pt) (s : State) : applyDraw a p s = setTrk { s.trk with
      current := p.add s.trk.offset, origin := originAt s.trk.inWindow a 1, expected := a + 1 }
    (if harvestable s.trk.attr s.trk.inWindow
      then queueItem (.segment s.trk.current (p.add s.trk.offset) ⟨a, 1⟩ s.trk.origin s.trk.attr.tag) s else s) := by
  unfold applyDraw
  dsimp only
  split <;> simp only [queueItem_frame]

theorem applyCircle_eq (a head : Addr) (c : Pt) (iw : Bool) (w : Word) (s : State) : applyCircle a head c iw w s = setTrk
    { s.trk with record := none, current := c.add s.trk.offset, origin := originAt iw head 2, expected := a + 1 }
    (if harvestable s.trk.attr iw
      then queueItem (.circle (c.add s.trk.offset) (w.extractLsb' 0 12).toNat ⟨head, 2⟩ s.trk.attr.tag) s else s) := by
  unfold applyCircle
  dsimp only
  rw [circleRadius_eq]
  split <;> simp only [queueItem_frame]

theorem harvestable_eq_true {attr : Attr} {b : Bool} (hinert : attr.inert = false) (hint : attr.intensity ≠ 0)
    (hb : b = false) : harvestable attr b = true := by
  simp [harvestable, hinert, hb]
  exact hint

theorem harvestable_eq_false {attr : Attr} {b : Bool} (h : attr.inert = true ∨ attr.intensity = 0 ∨ b = true) :
    harvestable attr b = false := by
  obtain h | h | h := h <;> simp [harvestable, h]

/-- A word that queues nothing and raises nothing. -/
theorem Answered.quiet (hr : Answered m a s r) {k : Tracker} (hu : u = setTrk k r) :
    (matchWatches a u).trk = k ∧ Leaves m a s s (matchWatches a u) := by
  subst hu
  exact ⟨by simp, hr.leaves (.of_quiet hr.hv rfl rfl) (by simp) (by simp)⟩

/-- A word that brings a geometry item. -/
theorem Answered.item (hr : Answered m a s r) {k k' : Tracker} {it : QItem} (hu : u = setTrk k' (queueItem it (setTrk k r))) :
    (matchWatches a u).trk = k'
    ∧ (geometryCount s.hv.queue < 16 → (matchWatches a u).hv = { s.hv with queue := s.hv.queue ++ [it] })
    ∧ Leaves m a s (queueItem it s) (matchWatches a u) := by
  subst hu
  have hleaves : Leaves m a s (queueItem it s) (matchWatches a (setTrk k' (queueItem it (setTrk k r)))) :=
    hr.leaves (u := queueItem it (setTrk k r))
      ⟨(sameArrivals_queueItem (r := setTrk k r) hr.hv it).hv, (sameArrivals_queueItem (r := setTrk k r) hr.hv it).raised⟩
      (by simp) (by simp)
  exact ⟨by simp, fun hroom => hleaves.harvest.trans (by rw [queueItem_of_room hroom]), hleaves⟩

/-- The head or last word of a DRAW or a CIRCLE: it brings its item where the geometry is harvestable, and nothing else does. -/
theorem Answered.geometry (hr : Answered m a s r) {k k' : Tracker} {it : QItem} {attr : Attr} {b : Bool}
    (hu : u = setTrk k' (if harvestable attr b then queueItem it (setTrk k r) else setTrk k r)) :
    (matchWatches a u).trk = k'
    ∧ (attr.inert = true ∨ attr.intensity = 0 ∨ b = true → Leaves m a s s (matchWatches a u))
    ∧ (attr.inert = false → attr.intensity ≠ 0 → b = false → geometryCount s.hv.queue < 16 →
      (matchWatches a u).hv = { s.hv with queue := s.hv.queue ++ [it] })
    ∧ (attr.inert = false → attr.intensity ≠ 0 → b = false → Leaves m a s (queueItem it s) (matchWatches a u)) := by
  refine ⟨by rw [hu]; split <;> simp, fun hnot => ?_, fun hinert hint hb => ?_, fun hinert hint hb => ?_⟩
  · rw [harvestable_eq_false hnot, if_neg Bool.false_ne_true] at hu
    exact (hr.quiet (k := k') hu).2
  all_goals
    rw [harvestable_eq_true hinert hint hb, if_pos rfl] at hu
    obtain ⟨-, hroom, hleaves⟩ := hr.item hu
  · exact hroom
  · exact hleaves

/-- A word that brings a marker. -/
theorem Answered.marker (hr : Answered m a s r) {k k' : Tracker} {it : QItem}
    (hu : u = setTrk k' (queueMarker it (setTrk k r))) :
    (matchWatches a u).trk = k'
    ∧ (geometryCount s.hv.queue < 16 → (matchWatches a u).hv = { s.hv with queue := s.hv.queue ++ [it] })
    ∧ Leaves m a s (queueMarker it s) (matchWatches a u) := by
  subst hu
  have hleaves : Leaves m a s (queueMarker it s) (matchWatches a (setTrk k' (queueMarker it (setTrk k r)))) :=
    hr.leaves (u := queueMarker it (setTrk k r))
      ⟨(sameArrivals_queueMarker (r := setTrk k r) hr.hv it).hv, (sameArrivals_queueMarker (r := setTrk k r) hr.hv it).raised⟩
      (by simp) (by simp)
  exact ⟨by simp, fun hroom => hleaves.harvest.trans (by rw [queueMarker_of_room hroom]), hleaves⟩

/-- A word that loses track. -/
theorem Answered.lost (hr : Answered m a s r) {c : FaultCode} {b : Bool}
    (hu : u = loseTrack c a (setTrk { s.trk with inWindow := b, lastWord := a } r)) :
    LosesTrack m c a a s (matchWatches a u) := by
  subst hu
  refine hr.losesTrack (b := b) (u := setTrk { s.trk with inWindow := b, lastWord := a } r) ?_ (by simp) (by simp) (by simp)
  rw [hr.trk]
  rfl

/-- A read at the expected address, off the list base, by a TRACKING tracker: the word that answers it is taken. -/
theorem Placed.strokeRead_word (h : Placed m s) (hop : s.port.op = .active) {b : Bool} (hb : b = true ↔ InRegions m s a)
    (htracking : s.trk.state = .tracking) (hexp : a = s.trk.expected) (hne : a ≠ m.listBase) :
    ∃ r w, Answered m a s r
      ∧ exec (.strokeRead a mem) s =
        .next (matchWatches a (takeWord m.listBase a w (setTrk { s.trk with inWindow := b } r)))
      ∧ (matchWatches a (takeWord m.listBase a w (setTrk { s.trk with inWindow := b } r))).bus.upstream = some w
      ∧ (¬ m.InWindow a.toNat → ¬ InStrapBlock s.port.strap a.toNat → w = mem)
      ∧ ReadAnswered m a mem s (matchWatches a (takeWord m.listBase a w (setTrk { s.trk with inWindow := b } r))) := by
  have hr : Answered m a s (strokeAnswer a mem (chooseFreeze a s)) := (h.afterFreeze.answered).of_chooseFreeze
  obtain ⟨w, hw⟩ := Option.isSome_iff_exists.mp hr.upstream
  have hexec := exec_strokeRead_of_placed (a := a) (mem := mem) h hop
  have hread := h.readAnswered (mem := mem) hne w
  rw [hw, Option.getD_some, hr.trackRead_eq h hb htracking hexp hne] at hexec
  rw [hr.trackRead_eq h hb htracking hexp hne] at hread
  refine ⟨_, w, hr, hexec, by simpa using hw, fun hwindow hstrap => ?_, hread⟩
  have hout : ¬ InRegions m s a := by
    rintro (hin | ⟨hin, -⟩)
    · exact hwindow hin
    · exact hstrap hin
  rw [h.afterFreeze.strokeAnswer_of_outside (by simpa [InRegions] using hout)] at hw
  exact (Option.some.inj hw).symm

/-- Settles O24. -/
theorem callsAndReturns : Obligations.CallsAndReturns := by
  intro m a mem s b h hop htracking hexp hne hb
  obtain ⟨r, w, hr, hexec, hup, hmem, hread⟩ := h.strokeRead_word (mem := mem) hop hb htracking hexp hne
  have hhead : s.trk.record = none → takeWord m.listBase a w (setTrk { s.trk with inWindow := b } r) =
      takeHead m.listBase a w (setTrk { s.trk with inWindow := b, lastWord := a } r) := fun hrec => takeWord_of_none hrec
  refine ⟨_, w, hexec, hup, hmem, fun hrec hk hroom => ?_, fun hrec hk hfull => ?_, fun head target hrec => ?_,
    fun c rest hrec hk hcalls => ?_, fun hrec hk hcalls => ?_, hread⟩
  · rw [hhead hrec, takeHead, decodeHead_of_call hk, headTarget_eq]
    dsimp only
    rw [if_pos (by exact hroom)]
    exact hr.quiet rfl
  · rw [hhead hrec, takeHead, decodeHead_of_call hk]
    dsimp only
    rw [if_neg (by exact Nat.not_lt.mpr hfull)]
    exact hr.lost rfl
  · rw [takeWord_of_call (by exact hrec), applyCall, callOffset_eq]
    exact hr.quiet rfl
  · rw [hhead hrec, takeHead, decodeHead_of_ret hk]
    dsimp only
    rw [applyReturn_of_cons (by exact hcalls)]
    exact hr.quiet rfl
  · rw [hhead hrec, takeHead, decodeHead_of_ret hk]
    dsimp only
    rw [applyReturn_of_nil (by exact hcalls)]
    exact hr.lost rfl

/-- Settles O23: each record's words by the head word or the record in progress. -/
theorem recordsTracked : Obligations.RecordsTracked := by
  intro m a mem s b h hop htracking hexp hne hb
  obtain ⟨r, w, hr, hexec, hup, hmem, hread⟩ := h.strokeRead_word (mem := mem) hop hb htracking hexp hne
  have hhead : s.trk.record = none → takeWord m.listBase a w (setTrk { s.trk with inWindow := b } r) =
      takeHead m.listBase a w (setTrk { s.trk with inWindow := b, lastWord := a } r) := fun hrec => takeWord_of_none hrec
  refine ⟨_, w, _, _, hexec, hup, hmem, rfl, rfl, fun hrec hk => ?_, fun hrec hk => ?_, fun hrec hk => ?_, fun hrec hk => ?_,
    fun head c iw hrec => ?_, fun hrec hk => ?_, fun head n hrec => ?_, fun hrec hk => ?_, fun hrec hk => ?_,
    fun hrec hk => ?_, fun hrec hk => ?_, hread⟩
  · rw [hhead hrec, takeHead, decodeHead_of_skip hk]
    exact hr.quiet rfl
  · rw [hhead hrec, takeHead, decodeHead_of_move hk, headPoint_eq]
    exact hr.quiet rfl
  · rw [hhead hrec, takeHead, decodeHead_of_draw hk, headPoint_eq]
    exact hr.geometry (applyDraw_eq ..)
  · rw [hhead hrec, takeHead, decodeHead_of_circle hk, headPoint_eq]
    exact hr.quiet rfl
  · rw [takeWord_of_circle (by exact hrec)]
    exact hr.geometry (applyCircle_eq ..)
  · rw [hhead hrec, takeHead, decodeHead_of_label hk, ← label_record_eq]
    exact hr.quiet rfl
  · rw [takeWord_of_label (by exact hrec)]
    exact hr.quiet rfl
  · rw [hhead hrec, takeHead, decodeHead_of_entity hk, headAttr_eq]
    exact hr.quiet rfl
  · rw [hhead hrec, takeHead, decodeHead_of_jump hk, headTarget_eq]
    exact hr.quiet rfl
  · rw [hhead hrec, takeHead, decodeHead_of_frame hk]
    exact hr.marker (applyFrame_eq ..)
  · rw [hhead hrec, takeHead, decodeHead_of_unassigned hk]
    exact hr.lost rfl
end Sys2Proof.Machine

/-! PROOFS. The start of a frame (section 1.6 and chapter 8), and the statement on it. -/

namespace Sys2Proof.Machine

variable {s t u r q x y : State} {a l : Addr} {mem w : Word} {m : RegionMap}

/-! ### The harvest of a frame start (R13, R14, R22 to R24) -/

/-- The two states agree on the harvest queue, the banks and the raised faults. -/
structure SameHarvest (x y : State) : Prop where
  hv : x.hv = y.hv
  raised : x.flt.raised = y.flt.raised

theorem SameHarvest.queueItem (h : SameHarvest x y) (it : QItem) : SameHarvest (queueItem it x) (queueItem it y) := by
  obtain ⟨hhv, l, hx, hy, -⟩ := queueItem_congr h.hv it
  exact ⟨hhv, by rw [hx, hy, h.raised]⟩

theorem SameHarvest.queueMarker (h : SameHarvest x y) (it : QItem) : SameHarvest (queueMarker it x) (queueMarker it y) := by
  obtain ⟨hhv, l, hx, hy, -⟩ := queueMarker_congr h.hv it
  exact ⟨hhv, by rw [hx, hy, h.raised]⟩

theorem SameHarvest.raise (h : SameHarvest x y) (c : FaultCode) (d : BitVec 20) :
    SameHarvest (raise c d 0 x) { y with flt := { y.flt with raised := y.flt.raised ++ [⟨c, d, 0⟩] } } :=
  ⟨h.hv, congrArg (fun l => l ++ [(⟨c, d, 0⟩ : Raised)]) h.raised⟩

theorem SameHarvest.setTrk (h : SameHarvest x y) (k : Tracker) : SameHarvest (setTrk k x) y := ⟨h.hv, h.raised⟩

/-- The tracker as the list-base word of a frame start finds it (R13). -/
def Tracker.atListBase (l : Addr) (k : Tracker) : Tracker where
  state := .tracking
  frameOpen := true
  expected := k.expected
  record := none
  lastWord := l
  current := ⟨0, 0⟩
  origin := none
  offset := ⟨0, 0⟩
  attr := ⟨7, false, 0⟩
  calls := []
  inWindow := false
  frames := k.frames + 1

theorem trigger_setTrk (k : Tracker) (s : State) : trigger (setTrk k s) = setTrk k (trigger s) := by
  by_cases hop : s.port.op = .active
  · cases hpass : s.comp.pass with
    | none =>
      rw [trigger_of_quiet hop hpass, trigger_of_quiet (s := setTrk k s) hop hpass]
      rfl
    | some i =>
      have hsome : s.comp.pass ≠ none := by rw [hpass]; exact Option.some_ne_none i
      rw [trigger_of_composing hop hsome, trigger_of_composing (s := setTrk k s) hop hsome]
      rfl
  · rw [trigger_of_not_active hop, trigger_of_not_active (s := setTrk k s) hop]

/-- The counters after a frame-start step that is not withheld (R137, R139). -/
def steppedPatterns (s : State) : Patterns :=
  if phaseSteps s then { s.pat.stepChannels with phase := phaseAfter s.band.period s.pat.phase } else s.pat.stepChannels

theorem patternStep_of_frozen (h : s.pat.frozen = true) : patternStep s = s := if_pos h

theorem outputsDiffer_steppedPatterns (s : State) :
    outputsDiffer s.pat (steppedPatterns s) = outputsDiffer s.pat s.pat.stepChannels := by
  unfold steppedPatterns
  split <;> rfl

theorem patternStep_of_running (h : s.pat.frozen = false) : patternStep s =
    if outputsDiffer s.pat (steppedPatterns s) || phaseSteps s then trigger { s with pat := steppedPatterns s }
    else { s with pat := steppedPatterns s } := by
  rw [outputsDiffer_steppedPatterns, steppedPatterns, ← stepChannels_phase s.pat]
  exact if_neg (by simp [h])

theorem patternStep_pat_of_running (h : s.pat.frozen = false) : (patternStep s).pat = steppedPatterns s := by
  rw [patternStep_of_running h]
  split <;> simp

theorem steppedPatterns_congr (hpat : x.pat = y.pat) (hband : x.band = y.band) : steppedPatterns x = steppedPatterns y := by
  have hsteps : phaseSteps x = phaseSteps y := by rw [phaseSteps, hband, ← phaseSteps]
  rw [steppedPatterns, steppedPatterns, hsteps, hpat, hband]

theorem passInputs_congr (hcu : x.cu = y.cu) (hse : x.se = y.se) (hband : x.band = y.band) (hpat : x.pat = y.pat)
    (hstyle : x.comp.style = y.comp.style) (hport : x.port = y.port) : passInputs x = passInputs y := by
  simp only [passInputs, hcu, hse, hband, hpat, hstyle, hport]

theorem patternStep_setTrk (k : Tracker) (s : State) : patternStep (setTrk k s) = setTrk k (patternStep s) := by
  cases hfrozen : s.pat.frozen with
  | true => rw [patternStep_of_frozen hfrozen, patternStep_of_frozen (s := setTrk k s) hfrozen]
  | false =>
    have hpat : steppedPatterns (setTrk k s) = steppedPatterns s := rfl
    have hsteps : phaseSteps (setTrk k s) = phaseSteps s := rfl
    rw [patternStep_of_running hfrozen, patternStep_of_running (s := setTrk k s) hfrozen, hpat, hsteps, setTrk_pat]
    split
    · exact trigger_setTrk k { s with pat := steppedPatterns s }
    · rfl

/-- A frame start takes the list-base word as a head word, after the step of the counters and the START. -/
theorem frameStart_eq (hl : inRegions s l = false) : ∃ x, frameStart l w s = takeHead l l w x
    ∧ x.trk = s.trk.atListBase l ∧ SameHarvest x (queueMarker (.start (s.trk.frames + 1) s.cu.pos 0 false) s)
    ∧ x.comp = (patternStep s).comp ∧ x.pat = (patternStep s).pat := by
  unfold frameStart
  dsimp only
  rw [patternStep_setTrk, takeWord_of_none (by simp [markInWindow])]
  refine ⟨_, rfl, ?_, ?_, by simp, by simp⟩
  · have hout : ∀ x : State, x.port = s.port → inRegions x l = false := fun x hx => by rw [inRegions_congr hx, hl]
    simp [markInWindow, Tracker.atListBase, hout]
  · have hsame : SameHarvest (setTrk { s.trk with
        frames := s.trk.frames + 1
        calls := []
        offset := ⟨0, 0⟩
        current := ⟨0, 0⟩
        origin := none
        attr := ⟨7, false, 0⟩
        record := none
        frameOpen := true } (patternStep s)) s := ⟨by simp, by simp⟩
    have hmarker := hsame.queueMarker (.start (s.trk.frames + 1) s.cu.pos 0 false)
    simp only [setTrk_trk, setTrk_cu, patternStep_frame]
    exact ⟨hmarker.hv, hmarker.raised⟩

/-- A head word that brings no item and no marker and loses no track, with no call open. -/
theorem takeHead_of_quiet_kind {k : BitVec 4} (hkind : k ≤ 1#4 ∨ (3#4 ≤ k ∧ k ≤ 6#4) ∨ k = 8#4) (hcalls : s.trk.calls = [])
    (hk : w.extractLsb' 28 4 = k) : (takeHead l a w s).hv = s.hv ∧ (takeHead l a w s).flt = s.flt := by
  have hcases : k = 0#4 ∨ k = 1#4 ∨ k = 3#4 ∨ k = 4#4 ∨ k = 5#4 ∨ k = 6#4 ∨ k = 8#4 := by
    clear hk
    revert k
    decide
  rw [takeHead]
  obtain h | h | h | h | h | h | h := hcases
  · rw [decodeHead_of_skip (hk.trans h)]
    exact ⟨rfl, rfl⟩
  · rw [decodeHead_of_move (hk.trans h)]
    exact ⟨rfl, rfl⟩
  · rw [decodeHead_of_circle (hk.trans h)]
    exact ⟨rfl, rfl⟩
  · rw [decodeHead_of_label (hk.trans h)]
    exact ⟨rfl, rfl⟩
  · rw [decodeHead_of_entity (hk.trans h)]
    exact ⟨rfl, rfl⟩
  · rw [decodeHead_of_call (hk.trans h)]
    dsimp only
    rw [if_pos (by rw [hcalls]; decide)]
    exact ⟨rfl, rfl⟩
  · rw [decodeHead_of_jump (hk.trans h)]
    exact ⟨rfl, rfl⟩

theorem kind_cases (k : BitVec 4) : (k ≤ 1#4 ∨ (3#4 ≤ k ∧ k ≤ 6#4) ∨ k = 8#4) ∨ k = 2#4 ∨ k = 9#4 ∨ k = 7#4 ∨ 10 ≤ k.toNat := by
  revert k
  decide

/-- The list-base word's part of the harvest: its item or marker, and the fault of a word that loses track. -/
theorem takeHead_atListBase {k : BitVec 4} {p : Pt} {lost : List Raised} {x q1 q2 q3 : State} {n : Tracker}
    (hx : SameHarvest x q1) (hn : x.trk = n.atListBase l) (hk : k = w.extractLsb' 28 4) (hp : p = headPoint w)
    (hlost : lost = if k = 7#4 then [⟨.nestUnderflow, l, 0⟩] else if 10 ≤ k.toNat then [⟨.unknownRecord, l, 0⟩] else [])
    (hq2 : q2 = { q1 with flt := { q1.flt with raised := q1.flt.raised ++ lost } })
    (hq3 : q3 = if k = 2#4 then queueItem (.segment ⟨0, 0⟩ p ⟨l, 1⟩ none 0) q2
      else if k = 9#4 then queueMarker .endMark q2
      else if k = 7#4 ∨ 10 ≤ k.toNat then queueMarker .discard q2 else q2) : SameHarvest (takeHead l l w x) q3 := by
  have hkeep : ∀ y : State, { y with flt := { y.flt with raised := y.flt.raised ++ [] } } = y := fun y => by
    rw [List.append_nil]
  have hlose : ∀ c, SameHarvest (loseTrack c l x)
      (queueMarker .discard { q1 with flt := { q1.flt with raised := q1.flt.raised ++ [⟨c, l, 0⟩] } }) := by
    intro c
    have hopen : x.trk.frameOpen = true := by rw [hn]; rfl
    have hdiscard : discardOpenFrame (raise c l 0 x) = queueMarker .discard (raise c l 0 x) := if_pos hopen
    have hmarker := (hx.raise c l).queueMarker .discard
    rw [← hdiscard] at hmarker
    exact ⟨hmarker.hv, hmarker.raised⟩
  have hadd : p.add ⟨0, 0⟩ = p := by simp [Pt.add]
  obtain hquiet | h2 | h9 | h7 | hge := kind_cases k
  · have hnot : k ≠ 2#4 ∧ k ≠ 9#4 ∧ k ≠ 7#4 ∧ ¬ 10 ≤ k.toNat := by
      clear hk hlost hq3
      revert k
      decide
    obtain ⟨h2, h9, h7, hge⟩ := hnot
    obtain ⟨hhv, hflt⟩ := takeHead_of_quiet_kind (l := l) (a := l) hquiet (by rw [hn]; rfl) hk.symm
    rw [if_neg h2, if_neg h9, if_neg (by simp [h7, hge])] at hq3
    rw [if_neg h7, if_neg hge] at hlost
    rw [hq3, hq2, hlost, hkeep]
    exact ⟨hhv.trans hx.hv, (congrArg FaultUnit.raised hflt).trans hx.raised⟩
  · subst h2
    have hitem := hx.queueItem (.segment ⟨0, 0⟩ p ⟨l, 1⟩ none 0)
    rw [if_neg (by decide), if_neg (by decide)] at hlost
    rw [if_pos rfl, hq2, hlost, hkeep] at hq3
    rw [takeHead, decodeHead_of_draw hk.symm, ← hp]
    dsimp only
    have hgeometry : harvestable (n.atListBase l).attr (n.atListBase l).inWindow = true :=
      harvestable_eq_true rfl (by change (7#3) ≠ 0; decide) rfl
    have hmain : SameHarvest (queueItem (.segment ⟨0, 0⟩ (p.add ⟨0, 0⟩) ⟨l, 1⟩ none 0) x)
        (queueItem (.segment ⟨0, 0⟩ p ⟨l, 1⟩ none 0) q1) := by
      rw [hadd]
      exact hitem
    rw [applyDraw_eq, hn, if_pos hgeometry, hq3]
    exact hmain.setTrk _
  · subst h9
    rw [if_neg (by decide), if_neg (by decide)] at hlost
    rw [if_neg (by decide), if_pos rfl, hq2, hlost, hkeep] at hq3
    rw [takeHead, decodeHead_of_frame hk.symm, hq3]
    dsimp only
    rw [applyFrame_eq]
    exact (hx.queueMarker .endMark).setTrk _
  · subst h7
    rw [if_pos rfl] at hlost
    rw [if_neg (by decide), if_neg (by decide), if_pos (.inl rfl), hq2, hlost] at hq3
    rw [takeHead, decodeHead_of_ret hk.symm, hq3]
    dsimp only
    rw [applyReturn_of_nil (by rw [hn]; rfl)]
    exact hlose _
  · have hnot : k ≠ 2#4 ∧ k ≠ 9#4 ∧ k ≠ 7#4 := by
      clear hk hlost hq3
      revert k
      decide
    obtain ⟨h2, h9, h7⟩ := hnot
    rw [if_neg h7, if_pos hge] at hlost
    rw [if_neg h2, if_neg h9, if_pos (.inr hge), hq2, hlost] at hq3
    rw [takeHead, decodeHead_of_unassigned (by rw [← hk]; exact hge), hq3]
    exact hlose _

/-! ### The tracker and the counters of a frame start -/

theorem frameStart_head (hl : inRegions s l = false) (w : Word) :
    (frameStart l w s).trk = (s.trk.atListBase l).head l l w := by
  rw [frameStart_trk, hl]
  rfl

/-- The list-base read starts a frame, after the abort of one that is open (R13, R14). -/
theorem trackRead_listBase {abort : Bool} (hstate : r.trk.state ≠ .halted)
    (habort : abort = true ↔ r.trk.state = .tracking ∧ r.trk.frameOpen = true) :
    trackRead l l w r =
      frameStart l w (if abort then queueMarker .discard (raise .frameAborted r.trk.lastWord 0 r) else r) := by
  have hnone : r.trk.state ≠ .tracking → abort = false := fun hn => by
    rw [← Bool.not_eq_true, habort]
    exact fun h => hn h.1
  unfold trackRead
  cases hcase : r.trk.state with
  | halted => exact absurd hcase hstate
  | waiting | lost =>
    rw [hnone (by rw [hcase]; decide)]
    exact if_pos rfl
  | tracking =>
    dsimp only
    rw [if_pos rfl, abortFrame]
    congr 1
    refine if_congr ?_ rfl rfl
    rw [habort, hcase]
    simp

theorem phaseSteps_iff (s : State) : phaseSteps s = true ↔ s.band.march = true ∧ 2 ≤ s.band.period := by
  rw [phaseSteps, Bool.and_eq_true, decide_eq_true_eq]

/-- What the frame-start step makes of the composer. -/
theorem patternStep_comp (hop : s.port.op = .active) (hfrozen : s.pat.frozen = false) {changed : Prop}
    (hchanged : changed ↔ (steppedPatterns s).a.out ≠ s.pat.a.out ∨ (steppedPatterns s).b.out ≠ s.pat.b.out
      ∨ (s.band.march = true ∧ 2 ≤ s.band.period)) :
    (¬ changed → (patternStep s).comp = s.comp)
    ∧ (changed → s.comp.pass = none →
      (patternStep s).comp = { s.comp with pass := some (passInputs { s with pat := steppedPatterns s }) })
    ∧ (changed → s.comp.pass ≠ none → (patternStep s).comp = { s.comp with again := true }) := by
  have hcond : (outputsDiffer s.pat (steppedPatterns s) || phaseSteps s) = true ↔ changed := by
    rw [Bool.or_eq_true, outputsDiffer_iff, phaseSteps_iff, hchanged, or_assoc, ne_comm, @ne_comm _ s.pat.b.out]
  rw [patternStep_of_running hfrozen]
  refine ⟨fun hn => ?_, fun hc hpass => ?_, fun hc hpass => ?_⟩
  · rw [if_neg (mt hcond.mp hn)]
  · rw [if_pos (hcond.mpr hc), trigger_of_quiet (by exact hop) (by exact hpass)]
  · rw [if_pos (hcond.mpr hc), trigger_of_composing (by exact hop) (by exact hpass)]

/-- The counters after a frame-start step, as chapter 8 states them. -/
theorem steppedPatterns_facts (s : State) :
    (steppedPatterns s).frozen = s.pat.frozen
    ∧ (steppedPatterns s).phase = (if s.band.march = true ∧ 2 ≤ s.band.period then
        (if s.pat.phase = 0 then s.band.period - 1 else s.pat.phase - 1) else s.pat.phase)
    ∧ (steppedPatterns s).cascade = s.pat.cascade
    ∧ (steppedPatterns s).a = s.pat.stepChannels.a ∧ (steppedPatterns s).b = s.pat.stepChannels.b := by
  have hchannels : s.pat.stepChannels.frozen = s.pat.frozen ∧ s.pat.stepChannels.cascade = s.pat.cascade := by
    unfold Patterns.stepChannels
    split
    · split <;> exact ⟨rfl, rfl⟩
    · exact ⟨rfl, rfl⟩
  obtain ⟨hfrozen, hcascade⟩ := hchannels
  unfold steppedPatterns
  by_cases hsteps : phaseSteps s = true
  · rw [if_pos hsteps, if_pos ((phaseSteps_iff s).mp hsteps)]
    exact ⟨hfrozen, rfl, hcascade, rfl, rfl⟩
  · rw [if_neg hsteps, if_neg (mt (phaseSteps_iff s).mpr hsteps)]
    exact ⟨hfrozen, stepChannels_phase _, hcascade, rfl, rfl⟩

theorem stepChannels_of_apart {p : Patterns} (h : p.cascade = false) :
    p.stepChannels.a = (if p.a.run then p.a.step else p.a) ∧ p.stepChannels.b = (if p.b.run then p.b.step else p.b) := by
  rw [Patterns.stepChannels, h]
  exact ⟨rfl, rfl⟩

theorem stepChannels_of_cascade {p : Patterns} (h : p.cascade = true) :
    p.stepChannels = if p.a.run then p.cascadeStep else p := by
  rw [Patterns.stepChannels, h]
  rfl

/-- A running cascaded pair steps as one channel of 16 bits. -/
theorem stepChannels_of_pair (h : PatternOk s) (hcascade : s.pat.cascade = true) (hrun : s.pat.a.run = true) {n r c : Nat}
    {o : Bool} (hn : n = 256 * s.pat.b.count + s.pat.a.count) (hr : r = 256 * s.pat.b.reload + s.pat.a.reload)
    (hc : c = 256 * s.pat.b.compare + s.pat.a.compare) :
    (n = 0 → o = decide (¬ (1 ≤ c ∧ c < r)) →
      s.pat.stepChannels.a = { s.pat.a with count := s.pat.a.reload, out := o }
      ∧ s.pat.stepChannels.b = { s.pat.b with count := s.pat.b.reload, out := o })
    ∧ (n ≠ 0 → o = (s.pat.a.out || decide (¬ (1 ≤ c ∧ c ≤ r)) || decide (n - 1 = c)) →
      s.pat.stepChannels.a = { s.pat.a with count := if s.pat.a.count = 0 then 255 else s.pat.a.count - 1, out := o }
      ∧ s.pat.stepChannels.b = { s.pat.b with
        count := if s.pat.a.count = 0 then s.pat.b.count - 1 else s.pat.b.count, out := o }) := by
  have hcount : s.pat.count16 = n := by rw [hn, Patterns.count16, Nat.mul_comm]
  have hreload : s.pat.reload16 = r := by rw [hr, Patterns.reload16, Nat.mul_comm]
  have hcompare : s.pat.compare16 = c := by rw [hc, Patterns.compare16, Nat.mul_comm]
  rw [stepChannels_of_cascade hcascade, if_pos hrun]
  refine ⟨fun hzero ho => ?_, fun hpos ho => ?_⟩
  · rw [cascadeStep_of_zero (o := o) (by rw [hcount, hzero]) h.settings.1 (by rw [hcompare, hreload, ho])]
    exact ⟨rfl, rfl⟩
  · rw [cascadeStep_of_pos (o := o) (by rwa [hcount]) h.counts.1 (by
      rw [hcompare, hreload, hcount, ho, Bool.or_assoc, Bool.or_comm])]
    exact ⟨rfl, rfl⟩

theorem matchWatches_pat_of_no_watch (h : NoFreezeWatch a s) (hu : u.flt.watches = s.flt.watches) :
    (matchWatches a u).pat = u.pat := by
  have hmiss : freezeHits a u = false := by
    rw [freezeHits, hu, ← freezeHits, freezeHits_of_no_watch h]
  rw [matchWatches_eq, hmiss]
  dsimp only
  rw [Bool.or_false]

theorem chooseFreeze_of_frozen (h : s.pat.frozen = true) (a : Addr) : chooseFreeze a s = s := by
  rw [chooseFreeze, freezeMeets, h]
  simp

/-! ### The statement -/

/-- The state as the frame start finds it: with an open frame aborted first (R14). -/
def abortedState (abort : Bool) (s : State) : State :=
  if abort then queueMarker .discard (raise .frameAborted s.trk.lastWord 0 s) else s

theorem abortedState_frame (abort : Bool) (s : State) :
    (abortedState abort s).trk = s.trk ∧ (abortedState abort s).port = s.port ∧ (abortedState abort s).bus = s.bus
    ∧ (abortedState abort s).comp = s.comp ∧ (abortedState abort s).pat = s.pat ∧ (abortedState abort s).cu = s.cu
    ∧ (abortedState abort s).band = s.band ∧ (abortedState abort s).se = s.se := by
  unfold abortedState
  split <;> simp

theorem abortedState_keeps (abort : Bool) (s : State) :
    (abortedState abort s).dir = s.dir ∧ (abortedState abort s).pane = s.pane ∧ (abortedState abort s).pending = s.pending
    ∧ (abortedState abort s).orderChoices = s.orderChoices ∧ (abortedState abort s).flt.last = s.flt.last
    ∧ (abortedState abort s).flt.seq = s.flt.seq ∧ (abortedState abort s).flt.stopCause = s.flt.stopCause
    ∧ (abortedState abort s).flt.latch = s.flt.latch ∧ (abortedState abort s).flt.responses = s.flt.responses
    ∧ (abortedState abort s).flt.watches = s.flt.watches := by
  unfold abortedState
  split <;> simp

theorem Placed.listBase_outside (h : Placed m s) : inRegions s m.listBase = false := by
  rw [← Bool.not_eq_true, h.inRegions_iff]
  rintro (hin | ⟨hin, -⟩)
  · exact h.fits.listOutside.1 hin
  · exact h.fits.strapFree ⟨_, hin, .inr (.inr rfl)⟩

/-- A list-base read in ACTIVE, unless the tracker is HALTED. -/
theorem Placed.exec_listBase (h : Placed m s) (hop : s.port.op = .active) (hstate : s.trk.state ≠ .halted) {abort : Bool}
    (habort : abort = true ↔ s.trk.state = .tracking ∧ s.trk.frameOpen = true) :
    exec (.strokeRead m.listBase mem) s = .next (matchWatches m.listBase (frameStart m.listBase mem
      (abortedState abort (forwardRead m.listBase mem (leaveWindow (chooseFreeze m.listBase s)))))) := by
  have hout : ¬ InRegions m (chooseFreeze m.listBase s) m.listBase := by
    rw [← h.afterFreeze.inRegions_iff, h.afterFreeze.listBase_outside]
    exact Bool.false_ne_true
  have hexec := exec_strokeRead_of_placed (a := m.listBase) (mem := mem) h hop
  rw [h.afterFreeze.strokeAnswer_of_outside hout] at hexec
  rw [hexec, trackRead_listBase (abort := abort) (by simpa [forwardRead, leaveWindow] using hstate)
    (by simpa [forwardRead, leaveWindow] using habort)]
  rfl

/-- The harvest queue, the banks and the raised faults of a frame start, arrival by arrival. -/
theorem frameStart_arrivals {k : BitVec 4} {p : Pt} {abort : Bool} {lost : List Raised} {q0 q1 q2 q3 : State}
    (hr : SameHarvest r s) (htrk : r.trk = s.trk) (hcu : r.cu = s.cu) (hl : inRegions r l = false)
    (hk : k = w.extractLsb' 28 4) (hp : p = headPoint w)
    (hlost : lost = if k = 7#4 then [⟨.nestUnderflow, l, 0⟩] else if 10 ≤ k.toNat then [⟨.unknownRecord, l, 0⟩] else [])
    (hq0 : q0 = if abort then queueMarker .discard { s with flt := { s.flt with
      raised := s.flt.raised ++ [⟨.frameAborted, s.trk.lastWord, 0⟩] } } else s)
    (hq1 : q1 = queueMarker (.start (s.trk.frames + 1) s.cu.pos 0 false) q0)
    (hq2 : q2 = { q1 with flt := { q1.flt with raised := q1.flt.raised ++ lost } })
    (hq3 : q3 = if k = 2#4 then queueItem (.segment ⟨0, 0⟩ p ⟨l, 1⟩ none 0) q2
      else if k = 9#4 then queueMarker .endMark q2
      else if k = 7#4 ∨ 10 ≤ k.toNat then queueMarker .discard q2 else q2) :
    SameHarvest (frameStart l w (abortedState abort r)) q3 := by
  obtain ⟨hbtrk, hbport, -, -, -, hbcu, -, -⟩ := abortedState_frame abort r
  have haborted : SameHarvest (abortedState abort r) q0 := by
    rw [hq0, abortedState, htrk]
    cases abort with
    | true => exact (hr.raise _ _).queueMarker .discard
    | false => exact hr
  obtain ⟨x, hx, hxtrk, hxsame, -, -⟩ := frameStart_eq (w := w) (l := l) (s := abortedState abort r)
    (by rw [inRegions_congr hbport, hl])
  rw [hbtrk, hbcu, htrk, hcu] at hxsame
  have hstart := haborted.queueMarker (.start (s.trk.frames + 1) s.cu.pos 0 false)
  rw [← hq1] at hstart
  rw [hx]
  exact takeHead_atListBase ⟨hxsame.hv.trans hstart.hv, hxsame.raised.trans hstart.raised⟩ hxtrk hk hp hlost hq2 hq3

/-- With room in the harvest queue a frame start only appends. -/
theorem arrivals_of_room {k : BitVec 4} {p : Pt} {abort : Bool} {extra : List QItem} {lost : List Raised} {q0 q1 q2 q3 : State}
    (hroom : geometryCount s.hv.queue < 16)
    (hextra : extra = if k = 2#4 then [.segment ⟨0, 0⟩ p ⟨l, 1⟩ none 0] else if k = 9#4 then [.endMark]
      else if k = 7#4 ∨ 10 ≤ k.toNat then [.discard] else [])
    (hq0 : q0 = if abort then queueMarker .discard { s with flt := { s.flt with
      raised := s.flt.raised ++ [⟨.frameAborted, s.trk.lastWord, 0⟩] } } else s)
    (hq1 : q1 = queueMarker (.start (s.trk.frames + 1) s.cu.pos 0 false) q0)
    (hq2 : q2 = { q1 with flt := { q1.flt with raised := q1.flt.raised ++ lost } })
    (hq3 : q3 = if k = 2#4 then queueItem (.segment ⟨0, 0⟩ p ⟨l, 1⟩ none 0) q2
      else if k = 9#4 then queueMarker .endMark q2
      else if k = 7#4 ∨ 10 ≤ k.toNat then queueMarker .discard q2 else q2) :
    q3.hv = { s.hv with queue := s.hv.queue ++ (if abort then [.discard] else [])
      ++ [.start (s.trk.frames + 1) s.cu.pos 0 false] ++ extra }
    ∧ q3.flt.raised = s.flt.raised ++ (if abort then [⟨.frameAborted, s.trk.lastWord, 0⟩] else []) ++ lost := by
  have h0 : q0.hv = { s.hv with queue := s.hv.queue ++ (if abort then [.discard] else []) }
      ∧ q0.flt.raised = s.flt.raised ++ (if abort then [⟨.frameAborted, s.trk.lastWord, 0⟩] else []) := by
    rw [hq0]
    cases abort with
    | true =>
      rw [if_pos rfl, queueMarker_of_room (by exact hroom)]
      exact ⟨rfl, rfl⟩
    | false => simp
  have hroom0 : geometryCount q0.hv.queue < 16 := by
    rw [h0.1, geometryCount_append]
    cases abort <;> exact hroom
  have h1 : q1 = { q0 with hv := { q0.hv with queue := q0.hv.queue ++ [.start (s.trk.frames + 1) s.cu.pos 0 false] } } :=
    hq1.trans (queueMarker_of_room hroom0)
  have hroom2 : geometryCount q2.hv.queue < 16 := by
    rw [hq2, h1, geometryCount_append]
    exact hroom0
  have h3 : q3 = { q2 with hv := { q2.hv with queue := q2.hv.queue ++ extra } } := by
    rw [hq3, hextra, queueItem_of_room hroom2, queueMarker_of_room hroom2, queueMarker_of_room hroom2]
    split_ifs
    · rfl
    · rfl
    · rfl
    · rw [List.append_nil]
  rw [h3, hq2, h1]
  dsimp only
  rw [h0.1, h0.2]
  exact ⟨rfl, rfl⟩

/-- The tracker after the list-base word, by its kind. -/
theorem head_atListBase {n u : Tracker} {k : BitVec 4} {p : Pt} (hk : k = w.extractLsb' 28 4) (hp : p = headPoint w)
    (hu : u = ⟨.tracking, true, l + 1, none, l, ⟨0, 0⟩, none, ⟨0, 0⟩, ⟨7, false, 0⟩, [], false, n.frames + 1⟩) :
    (k = 0#4 → (n.atListBase l).head l l w = u)
    ∧ (k = 1#4 ∨ k = 2#4 → (n.atListBase l).head l l w = { u with current := p, origin := some ⟨l, 1⟩ })
    ∧ (k = 3#4 → (n.atListBase l).head l l w = { u with record := some (.circle l p false) })
    ∧ (k = 4#4 → (n.atListBase l).head l l w = { u with
        record := if w.extractLsb' 0 8 = 0 then none else some (.label l (((w.extractLsb' 0 8).toNat + 3) / 4)) })
    ∧ (k = 5#4 → (n.atListBase l).head l l w = { u with attr := ⟨w.extractLsb' 24 3, w.getLsbD 16, w.extractLsb' 0 16⟩ })
    ∧ (k = 6#4 → (n.atListBase l).head l l w = { u with record := some (.call l (w.extractLsb' 0 20)) })
    ∧ (k = 8#4 → (n.atListBase l).head l l w = { u with expected := w.extractLsb' 0 20 })
    ∧ (k = 9#4 → (n.atListBase l).head l l w = { u with expected := l, frameOpen := false })
    ∧ (k = 7#4 ∨ 10 ≤ k.toNat → (n.atListBase l).head l l w =
      { u with state := .lost, frameOpen := false, expected := n.expected }) := by
  have hadd : p.add ⟨0, 0⟩ = p := by simp [Pt.add]
  subst hu
  refine ⟨fun h => ?_, fun h => ?_, fun h => ?_, fun h => ?_, fun h => ?_, fun h => ?_, fun h => ?_, fun h => ?_, fun h => ?_⟩
  · rw [Tracker.head, decodeHead_of_skip (hk.symm.trans h)]
    rfl
  · have hmoved : ∀ q, q = p.add ⟨0, 0⟩ → ({ (n.atListBase l) with
        current := q, origin := originAt false l 1, expected := l + 1 } : Tracker) =
        ⟨.tracking, true, l + 1, none, l, p, some ⟨l, 1⟩, ⟨0, 0⟩, ⟨7, false, 0⟩, [], false, n.frames + 1⟩ := by
      rintro q rfl
      rw [hadd]
      rfl
    rw [Tracker.head]
    obtain h | h := h
    · rw [decodeHead_of_move (hk.symm.trans h), ← hp]
      exact hmoved _ rfl
    · rw [decodeHead_of_draw (hk.symm.trans h), ← hp]
      exact hmoved _ rfl
  · rw [Tracker.head, decodeHead_of_circle (hk.symm.trans h), ← hp]
    rfl
  · rw [Tracker.head, decodeHead_of_label (hk.symm.trans h), ← label_record_eq]
    rfl
  · rw [Tracker.head, decodeHead_of_entity (hk.symm.trans h), headAttr_eq]
    rfl
  · rw [Tracker.head, decodeHead_of_call (hk.symm.trans h), headTarget_eq]
    rfl
  · rw [Tracker.head, decodeHead_of_jump (hk.symm.trans h), headTarget_eq]
    rfl
  · rw [Tracker.head, decodeHead_of_frame (hk.symm.trans h)]
    rfl
  · rw [Tracker.head]
    obtain h | h := h
    · rw [decodeHead_of_ret (hk.symm.trans h)]
      rfl
    · rw [decodeHead_of_unassigned (by rw [← hk]; exact h)]
      rfl

theorem frameStart_comp_pat (hl : inRegions s l = false) (w : Word) :
    (frameStart l w s).comp = (patternStep s).comp ∧ (frameStart l w s).pat = (patternStep s).pat := by
  obtain ⟨x, hx, -, -, hcomp, hpat⟩ := frameStart_eq (w := w) hl
  rw [hx]
  simp only [takeHead_frame]
  exact ⟨hcomp, hpat⟩

/-- The read of the list base up to the frame start: the answer from memory, and window entered cleared. -/
structure ListBaseRead (m : RegionMap) (mem : Word) (s r : State) : Prop where
  same : SameHarvest r s
  flt : r.flt = s.flt
  blocks : r.trk = s.trk ∧ r.port = s.port ∧ r.se = s.se ∧ r.cu = s.cu ∧ r.band = s.band ∧ r.dir = s.dir ∧ r.pane = s.pane
    ∧ r.pending = s.pending
  bus : r.bus = ⟨some (.read m.listBase), some mem⟩
  comp : r.comp = { s.comp with entered := false }
  pattern : NoFreezeWatch m.listBase s ∨ s.pat.frozen = true → r.pat = s.pat ∧ r.orderChoices = s.orderChoices

theorem listBaseRead (m : RegionMap) (mem : Word) (s : State) :
    ListBaseRead m mem s (forwardRead m.listBase mem (leaveWindow (chooseFreeze m.listBase s))) := by
  refine ⟨⟨?_, ?_⟩, ?_, ?_, rfl, ?_, fun h => ?_⟩
  · simp [forwardRead, leaveWindow]
  · simp [forwardRead, leaveWindow]
  · simp [forwardRead, leaveWindow]
  · simp [forwardRead, leaveWindow]
  · simp [forwardRead, leaveWindow]
  · rw [h.elim chooseFreeze_of_no_watch (chooseFreeze_of_frozen · _)]
    exact ⟨rfl, rfl⟩

/-- Settles O21. -/
theorem frameStarts : Obligations.FrameStarts := by
  intro m mem s k p abort u extra lost h hop hstate hk hp habort hu hextra hlost
  have hexec := h.exec_listBase (mem := mem) hop hstate habort
  have hp' : p = headPoint mem := by rw [hp, headPoint_eq]
  have hr := listBaseRead m mem s
  generalize forwardRead m.listBase mem (leaveWindow (chooseFreeze m.listBase s)) = r at hexec hr
  obtain ⟨hrtrk, hrport, hrse, hrcu, hrband, hrdir, hrpane, hrpending⟩ := hr.blocks
  obtain ⟨hbtrk, hbport, hbbus, hbcomp, hbpat, hbcu, hbband, hbse⟩ := abortedState_frame abort r
  have hrout : inRegions r m.listBase = false := by rw [inRegions_congr hrport, h.listBase_outside]
  have hbout : inRegions (abortedState abort r) m.listBase = false := by rw [inRegions_congr hbport, hrout]
  have htrk := frameStart_head hbout mem
  rw [hbtrk, hrtrk] at htrk
  obtain ⟨hcomp, hpat⟩ := frameStart_comp_pat hbout mem
  have harrive := fun q0 q1 q2 q3 => frameStart_arrivals (s := s) (r := r) (abort := abort) (q0 := q0) (q1 := q1) (q2 := q2)
    (q3 := q3) hr.same hrtrk hrcu hrout hk hp' hlost
  have hfkeeps := frameStart_keeps (s := abortedState abort r) m.listBase mem
  have hfframe := frameStart_frame (s := abortedState abort r) m.listBase mem
  obtain ⟨hbdir, hbpane, hbpending, hborder, hblast, hbseq, hbstop, hblatch, hbresponses, hbwatches⟩ :=
    abortedState_keeps abort r
  generalize abortedState abort r = b at *
  generalize frameStart m.listBase mem b = f at *
  have hwatches : f.flt.watches = s.flt.watches := by simp [hfkeeps, hbwatches, hr.flt]
  have ht : (matchWatches m.listBase f).trk = f.trk := by simp
  rw [← ht] at htrk
  obtain ⟨hk0, hk1, hk3, hk4, hk5, hk6, hk8, hk9, hk7⟩ := head_atListBase hk hp' hu
  rw [← htrk] at hk0 hk1 hk3 hk4 hk5 hk6 hk8 hk9 hk7
  refine ⟨_, hexec, hk0, hk1, hk3, hk4, hk5, hk6, hk8, hk9, hk7, fun hroom => ?_, fun q0 q1 q2 q3 hq0 hq1 hq2 hq3 => ?_,
    flt_eq_of_keeps ?_, pane_eq_of_keeps ?_, ?_, fun hwatch => ?_, fun hfrozen => ?_, fun hwatch hrunning => ?_, ?_⟩
  · have hsame := harrive _ _ _ _ rfl rfl rfl rfl
    obtain ⟨hhv, hraised⟩ := arrivals_of_room (s := s) (p := p) (abort := abort) (lost := lost) hroom hextra rfl rfl rfl rfl
    simp only [matchWatches_frame, matchWatches_keeps]
    exact ⟨hsame.hv.trans hhv, hsame.raised.trans hraised⟩
  · have hsame := harrive q0 q1 q2 q3 hq0 hq1 hq2 hq3
    simp only [matchWatches_frame, matchWatches_keeps]
    exact ⟨hsame.hv, hsame.raised⟩
  · simp [hfkeeps, hblast, hbseq, hbstop, hblatch, hbresponses, hbwatches, hr.flt]
  · simp [hfframe, hbpane, hrpane]
  · simp [hfframe, hbbus, hr.bus]
  · obtain ⟨hrpat, hrorder⟩ := hr.pattern (.inl hwatch)
    rw [matchWatches_pat_of_no_watch hwatch hwatches]
    simp [hfframe, hfkeeps, hbpat, hrpat, hborder, hrorder]
  · obtain ⟨hrpat, -⟩ := hr.pattern (.inr hfrozen)
    have hbfrozen : b.pat.frozen = true := by rw [hbpat, hrpat, hfrozen]
    rw [patternStep_of_frozen hbfrozen] at hcomp hpat
    have hfpat : f.pat = s.pat := by rw [hpat, hbpat, hrpat]
    refine ⟨?_, by simp [hcomp, hbcomp, hr.comp]⟩
    rw [matchWatches_eq]
    dsimp only
    rw [hfpat, hfrozen, Bool.true_or, ← hfrozen]
  · obtain ⟨hrpat, -⟩ := hr.pattern (.inl hwatch)
    have hbpat' : b.pat = s.pat := hbpat.trans hrpat
    have hbband' : b.band = s.band := hbband.trans hrband
    have hstepped : steppedPatterns b = steppedPatterns s := steppedPatterns_congr hbpat' hbband'
    have hbfrozen : b.pat.frozen = false := by rw [hbpat', hrunning]
    have htpat : (matchWatches m.listBase f).pat = steppedPatterns s := by
      rw [matchWatches_pat_of_no_watch hwatch hwatches, hpat, patternStep_pat_of_running hbfrozen, hstepped]
    obtain ⟨-, hphase, hcascade, ha, hb⟩ := steppedPatterns_facts s
    rw [htpat, ha, hb]
    refine ⟨hphase, hcascade, stepChannels_of_apart, fun hc hrun => ?_, fun n r' c o hc hok hrun hn hr' hcmp =>
      stepChannels_of_pair hok hc hrun hn hr' hcmp, fun changed hchanged => ?_⟩
    · rw [stepChannels_of_cascade hc, if_neg (by rw [hrun]; exact Bool.false_ne_true)]
      exact ⟨rfl, rfl⟩
    · rw [← ha, ← hb] at hchanged
      have hcases := patternStep_comp (s := b) (changed := changed) (by rw [hbport, hrport, hop]) hbfrozen
        (by rw [hstepped, hbpat', hbband', hchanged])
      have hbcomp' : b.comp = { s.comp with entered := false } := hbcomp.trans hr.comp
      have hinputs : passInputs { b with pat := steppedPatterns b } = passInputs { s with pat := steppedPatterns s } :=
        passInputs_congr (hbcu.trans hrcu) (hbse.trans hrse) hbband' hstepped (by rw [hbcomp']) (hbport.trans hrport)
      rw [hinputs, hbcomp', ← hcomp] at hcases
      simpa using hcases
  · simp only [matchWatches_frame, hfkeeps, hfframe]
    simp [hbcomp, hr.comp, hbport, hrport, hbse, hrse, hbcu, hrcu, hbband, hrband, hbdir, hrdir, hbpending, hrpending]

end Sys2Proof.Machine

/-! PROOFS. The markers taken from the harvest queue (section 2.2) and the start of a search (section 3.2). -/

namespace Sys2Proof.Machine

variable {s t : State} {i j : BankId} {st : BankState} {b c : Triplet Bank}

/-! ### The triplet bank by bank (R25) -/

theorem Triplet.ext_get {α : Type} {x y : Triplet α} (h : ∀ i, x.get i = y.get i) : x = y := by
  have h0 : x.e0 = y.e0 := h .b0
  have h1 : x.e1 = y.e1 := h .b1
  have h2 : x.e2 = y.e2 := h .b2
  cases x
  cases y
  simp_all

/-- The lowest-numbered bank in a state is the one found. -/
theorem findBank_of_lowest (hi : (b.get i).state = st) (hlow : ∀ j, (b.get j).state = st → i.number ≤ j.number) :
    findBank b st = some i := by
  have h0 : b.e0.state = st → i.number ≤ 0 := hlow .b0
  have h1 : b.e1.state = st → i.number ≤ 1 := hlow .b1
  cases i with
  | b0 => exact if_pos hi
  | b1 =>
    rw [findBank, if_neg fun h => absurd (h0 h) (by decide)]
    exact if_pos hi
  | b2 =>
    rw [findBank, if_neg fun h => absurd (h0 h) (by decide), if_neg fun h => absurd (h1 h) (by decide)]
    exact if_pos hi

/-- In a state other than EMPTY there is only one to find. -/
theorem Triplet.Sound.findBank_eq (h : b.Sound) (hst : st ≠ .empty) (hi : (b.get i).state = st) : findBank b st = some i := by
  obtain hnone | ⟨j, hj⟩ := Option.eq_none_or_eq_some (findBank b st)
  · exact absurd hi (findBank_eq_none_iff.mp hnone i)
  · rw [hj, h.oneEach st hst j i (state_of_findBank hj) hi]

theorem Triplet.Sound.get_releaseBank (h : b.Sound) (hst : st ≠ .empty) (j : BankId) :
    (releaseBank st b).get j = if (b.get j).state = st then Bank.released else b.get j := by
  obtain hnone | ⟨i, hi⟩ := Option.eq_none_or_eq_some (findBank b st)
  · rw [releaseBank, hnone, if_neg (findBank_eq_none_iff.mp hnone j)]
  · rw [releaseBank, hi]
    dsimp only
    rw [Triplet.get_set]
    refine if_congr ⟨fun hj => ?_, fun hj => ?_⟩ rfl rfl
    · rw [hj, state_of_findBank hi]
    · exact h.oneEach st hst j i hj (state_of_findBank hi)

theorem get_restateBank (st : BankState) (i j : BankId) (b : Triplet Bank) :
    (restateBank st i b).get j = if j = i then { b.get j with state := st } else b.get j := by
  rw [restateBank, Triplet.get_set]
  split
  · next h => rw [h]
  · rfl

/-- With no bank FILLING, one of the three is EMPTY: the others are CURRENT and READY at most. -/
theorem Triplet.Sound.exists_empty (h : b.Sound) (hfilling : ∀ i, (b.get i).state ≠ .filling) :
    ∃ i, (b.get i).state = .empty := by
  by_contra hnone
  rw [not_exists] at hnone
  have hcases : ∀ i, (b.get i).state = .current ∨ (b.get i).state = .ready := by
    intro i
    cases hstate : (b.get i).state with
    | empty => exact absurd hstate (hnone i)
    | filling => exact absurd hstate (hfilling i)
    | current => exact .inl rfl
    | ready => exact .inr rfl
  have hdiff : ∀ i j, i ≠ j → (b.get i).state ≠ (b.get j).state := by
    intro i j hij hsame
    exact hij (h.oneEach _ (hnone j) i j hsame rfl)
  obtain h0 | h0 := hcases .b0 <;> obtain h1 | h1 := hcases .b1 <;> obtain h2 | h2 := hcases .b2
  all_goals
    have h01 := hdiff .b0 .b1 (by decide)
    have h02 := hdiff .b0 .b2 (by decide)
    have h12 := hdiff .b1 .b2 (by decide)
    simp_all

/-! ### START and DISCARD (R26, R28) -/

theorem harvestHead_of_active {it : QItem} {rest : List QItem} (hop : s.port.op = .active) (hq : s.hv.queue = it :: rest) :
    harvestHead s = some it := by
  rw [harvestHead, if_pos hop, hq]
  rfl

theorem exec_startTaken_of_start {f : BitVec 32} {c : Pt} {d : Nat} {n : Bool} (h : harvestHead s = some (.start f c d n)) :
    exec .startTaken s = .next (takeStart f c d n s) := by
  change execStartTaken s = _
  rw [execStartTaken, h]

theorem exec_startTaken_of_other {it : QItem} (h : harvestHead s = some it) (hit : ∀ f c d n, it ≠ .start f c d n) :
    exec .startTaken s = .next s := by
  change execStartTaken s = _
  rw [execStartTaken, h]
  cases it with
  | start f c d n => exact absurd rfl (hit f c d n)
  | segment | circle | endMark | discard => rfl

theorem exec_discardTaken_of_discard (h : harvestHead s = some .discard) :
    exec .discardTaken s = .next (takeDiscard s) := by
  change execDiscardTaken s = _
  rw [execDiscardTaken, h]

theorem exec_discardTaken_of_other {it : QItem} (h : harvestHead s = some it) (hit : it ≠ .discard) :
    exec .discardTaken s = .next s := by
  change execDiscardTaken s = _
  rw [execDiscardTaken, h]
  cases it with
  | discard => exact absurd rfl hit
  | start | segment | circle | endMark => rfl

/-- Settles O32. -/
theorem startAndDiscardTaken : Obligations.StartAndDiscardTaken := by
  intro s it rest t hb hop hq ht
  have hsound := banksOk_iff.mp hb
  obtain rfl : t = releaseBank .filling s.hv.banks :=
    Triplet.ext_get fun j => (ht j).trans (hsound.get_releaseBank (by decide) j).symm
  have hhead := harvestHead_of_active hop hq
  have htail : s.hv.queue.tail = rest := by rw [hq]; rfl
  refine ⟨(releaseBank_sound hsound .filling).exists_empty (ne_of_releaseBank hsound (by decide)),
    fun f c d n i hit hempty hlow => ?_, fun hit => ?_, fun hit => exec_startTaken_of_other hhead hit,
    fun hit => exec_discardTaken_of_other hhead hit⟩
  · rw [exec_startTaken_of_start (hhead.trans (congrArg some hit)), takeStart_eq, findBank_of_lowest hempty hlow, htail]
  · rw [exec_discardTaken_of_discard (hhead.trans (congrArg some hit)), takeDiscard, releaseFilling_eq, popItem, htail]
    rfl

/-! ### SEARCH_START (R45, R46) -/

theorem findBank_current_eq {bank : Option BankId} (hbank : ∀ i, bank = some i ↔ (b.get i).state = st) :
    findBank b st = bank := by
  cases hcase : bank with
  | none =>
    refine findBank_eq_none_iff.mpr fun i hi => ?_
    rw [← hbank, hcase] at hi
    exact nomatch hi
  | some i =>
    subst hcase
    refine findBank_of_lowest ((hbank i).mp rfl) fun j hj => ?_
    rw [← Option.some.inj ((hbank j).mpr hj)]

theorem startSearch_of_press {p : Press} {rest : List Press} (hop : s.port.op = .active) (hidle : s.se.search = none)
    (hp : s.se.presses = p :: rest) : startSearch s = { s with se := { s.se with
      presses := rest, search := some (searchInputs (.press p) s), startOwed := false } } := by
  rw [startSearch, if_pos ⟨hop, by rw [hidle]; rfl⟩, hp]

theorem startSearch_of_motion (hop : s.port.op = .active) (hidle : s.se.search = none) (hp : s.se.presses = [])
    (hmotion : s.se.motion = true) : startSearch s = { s with se := { s.se with
      motion := false, search := some (searchInputs .motion s), startOwed := false } } := by
  rw [startSearch, if_pos ⟨hop, by rw [hidle]; rfl⟩, hp]
  exact if_pos hmotion

theorem startSearch_of_not_due (h : s.port.op ≠ .active ∨ s.se.search.isSome = true
    ∨ (s.se.presses = [] ∧ s.se.motion = false)) : startSearch s = s := by
  obtain ⟨-, heq⟩ | ⟨r, rest, m, hdue, -, -⟩ := startSearch_cases s
  · exact heq
  · rw [startDue, Bool.and_eq_true, Bool.and_eq_true, beq_iff_eq] at hdue
    obtain ⟨⟨hop, hidle⟩, hpending⟩ := hdue
    obtain hnot | hsome | ⟨hempty, hmotion⟩ := h
    · exact absurd hop hnot
    · rw [Option.isSome_iff_ne_none] at hsome
      exact absurd (Option.isNone_iff_eq_none.mp hidle) hsome
    · rw [hempty, hmotion] at hpending
      exact nomatch hpending

/-- Settles O37. -/
theorem searchStarts : Obligations.SearchStarts := by
  intro s bank hbank
  have hfind := findBank_current_eq hbank
  refine ⟨fun p rest hop hidle hp => ?_, fun hop hidle hp hmotion => ?_,
    fun h => congrArg Host.Outcome.next (startSearch_of_not_due h)⟩
  · refine congrArg Host.Outcome.next ((startSearch_of_press hop hidle hp).trans ?_)
    rw [searchInputs, hfind]
  · refine congrArg Host.Outcome.next ((startSearch_of_motion hop hidle hp hmotion).trans ?_)
    rw [searchInputs, hfind]

/-! ### END (R27, R29) -/

theorem exec_endTaken_of_end (h : harvestHead s = some .endMark) : exec .endTaken s = .next (takeEnd s) := by
  change execEndTaken s = _
  rw [execEndTaken, h]

/-- With a bank FILLING, an END makes it READY and promotes it while the engine is IDLE. -/
theorem takeEnd_of_filling (h : s.hv.banks.Sound) (hi : (s.hv.banks.get i).state = .filling) : takeEnd s =
    (let u := setBanks (restateBank .ready i (releaseBank .ready s.hv.banks)) (popItem (startOwedSearch s))
      if u.se.search.isNone then promote u else u) := by
  have hfind := h.findBank_eq (by decide) hi
  obtain ⟨hnone, -⟩ | ⟨j, u, hj, rfl, heq⟩ := takeEnd_cases s
  · rw [hnone] at hfind
    exact nomatch hfind
  · obtain rfl := Option.some.inj (hj.symm.trans hfind)
    exact heq

/-- Settles O33. -/
theorem endTaken : Obligations.EndTaken := by
  intro s z rest t hb hop hq hnone howed
  have hsound := banksOk_iff.mp hb
  have hz : startOwedSearch s = z := by
    rw [startOwedSearch]
    split
    · next h => exact Host.Outcome.next.inj (howed h)
    · next h => exact (hnone (by simpa using h)).symm
  have hzhv : z.hv = s.hv := by simp [← hz]
  have hzport : z.port = s.port := by simp [← hz]
  have hzcu : z.cu = s.cu := by simp [← hz]
  have hzpane : z.pane = s.pane := by simp [← hz]
  have hhead := harvestHead_of_active hop hq
  have htail : s.hv.queue.tail = rest := by rw [hq]; rfl
  have hpop : popItem z = { z with hv := { s.hv with queue := rest } } := by
    rw [popItem, hzhv, htail]
  rw [exec_endTaken_of_end hhead]
  refine ⟨fun hfilling => ?_, fun i hi hsearch ht => ?_, fun i hi hidle ht => ?_, fun howes hok => ?_⟩
  · obtain ⟨-, heq⟩ | ⟨i, u, hi, -⟩ := takeEnd_cases s
    · rw [heq, hz, hpop]
    · exact absurd (state_of_findBank hi) (hfilling i)
  · rw [takeEnd_of_filling hsound hi, hz, hpop, if_neg (by simp [Option.ne_none_iff_isSome.mpr hsearch])]
    obtain rfl : t = restateBank .ready i (releaseBank .ready s.hv.banks) := Triplet.ext_get fun j => by
      rw [ht j, get_restateBank, hsound.get_releaseBank (by decide)]
      split
      · next hj => rw [if_neg (by rw [hj, hi]; decide)]
      · rfl
    rfl
  · rw [takeEnd_of_filling hsound hi, hz, hpop, if_pos (by simp [hidle])]
    have hready := hsound.restate (st := .ready) (i := i) (by decide)
    have hfind : findBank (restateBank .ready i (releaseBank .ready s.hv.banks)) .ready = some i :=
      hready.findBank_eq (by decide) (by rw [get_restateBank, if_pos rfl])
    obtain rfl : t = restateBank .current i (releaseBank .current (restateBank .ready i (releaseBank .ready s.hv.banks))) :=
      Triplet.ext_get fun j => by
        rw [ht j, get_restateBank, hready.get_releaseBank (by decide), get_restateBank, hsound.get_releaseBank (by decide)]
        split
        · next hj => simp [hj, hi]
        · cases hstate : (s.hv.banks.get j).state <;> simp [hstate, Bank.released]
    rw [promote_eq]
    dsimp only [setBanks]
    rw [hfind]
    dsimp only
    rw [fileMotion_eq]
    simp [hzport, hop, hzcu, hzpane]
  · obtain ⟨hidle, hpending⟩ := hok.owed howes
    have hstart : startSearch s = z := Host.Outcome.next.inj (howed howes)
    cases hpresses : s.se.presses with
    | nil =>
      rw [← hstart, startSearch_of_motion hop hidle hpresses (hpending.resolve_left (not_not.mpr hpresses))]
      rfl
    | cons p l =>
      rw [← hstart, startSearch_of_press hop hidle hpresses]
      rfl

end Sys2Proof.Machine

/-! PROOFS. The items taken from the harvest queue (sections 2.2 to 2.4): the entries offered to the FILLING bank, one by one. -/

namespace Sys2Proof.Machine

variable {s t : State} {i : BankId} {rest : List QItem} {l : List Entry} {last : Option Pt} {e : Entry}

/-! ### The capture test (R30) -/

theorem captures_point (h : Header) (k : PointKind) (p : Pt) : captures h (.point k p) = decide (h.TakesPoint p) := by
  rw [Bool.eq_iff_iff]
  simp only [captures, Bool.and_eq_true, decide_eq_true_eq, Header.TakesPoint, Pt.OnScreen]
  tauto

/-- A box that is not empty meets the capture box where both intervals do. -/
theorem boxMeets_iff (h : Header) {x0 y0 x1 y1 : Int} (hx : x0 ≤ x1) (hy : y0 ≤ y1) :
    boxMeets h.centre h.half x0 y0 x1 y1 = true ↔ h.TakesBox ⟨x0, y0⟩ ⟨x1, y1⟩ := by
  simp only [boxMeets, Bool.and_eq_true, decide_eq_true_eq, Header.TakesBox]
  constructor
  · rintro ⟨⟨⟨hx0, hx1⟩, hy0⟩, hy1⟩
    exact ⟨max x0 (h.centre.x - h.half), max y0 (h.centre.y - h.half), by omega, by omega, by omega, by omega, by omega,
      by omega⟩
  · rintro ⟨x, y, hx0, hx1, hy0, hy1, hxh, hyh⟩
    omega

theorem captures_segment (h : Header) (p0 p1 : Pt) : captures h (.segment p0 p1) = true ↔
    h.TakesBox ⟨min p0.x p1.x, min p0.y p1.y⟩ ⟨max p0.x p1.x, max p0.y p1.y⟩ :=
  boxMeets_iff h (by omega) (by omega)

theorem captures_circle (h : Header) (c : Pt) (r : Nat) : captures h (.circle c r) = true ↔
    h.TakesBox ⟨c.x - r, c.y - r⟩ ⟨c.x + r, c.y + r⟩ := boxMeets_iff h (by omega) (by omega)

/-- The capture test reads the header's square alone. -/
theorem captures_congr {h k : Header} (hc : k.centre = h.centre) (hh : k.half = h.half) (sh : Shape) :
    captures k sh = captures h sh := by
  cases sh <;> simp only [captures, hc, hh]

/-! ### One offer (R32, R35) -/

theorem Triplet.set_get {α : Type} (t : Triplet α) (i : BankId) : t.set i (t.get i) = t := by
  cases i <;> rfl

theorem Triplet.set_set {α : Type} (t : Triplet α) (i : BankId) (v w : α) : (t.set i v).set i w = t.set i w := by
  cases i <;> rfl

/-- The FILLING bank after the entries `l` passed (R35). -/
def Bank.filled (l : List Entry) (b : Bank) : Bank := { b with
  entries := b.entries ++ l.take (1024 - b.entries.length)
  header := { b.header with
    dropped := if l.length ≤ 1024 - b.entries.length then b.header.dropped
      else min 65535 (b.header.dropped + (l.length - (1024 - b.entries.length)))
    crowded := b.header.crowded || decide (1024 - b.entries.length < l.length) } }

/-- The BANK CROWDED that the entries `l` raise (R35). -/
def Bank.crowdedFaults (l : List Entry) (b : Bank) : List Raised :=
  if 1024 - b.entries.length < l.length ∧ b.header.crowded = false
  then [⟨.bankCrowded, (b.header.frame.extractLsb' 0 16).setWidth 20, 0⟩] else []

theorem harvested_eq (rest : List QItem) (i : BankId) (l : List Entry) (last : Option Pt) (s : State) :
    harvested rest i l last s = { s with
      hv := ⟨rest, s.hv.banks.set i ((s.hv.banks.get i).filled l), last⟩
      flt := { s.flt with raised := s.flt.raised ++ (s.hv.banks.get i).crowdedFaults l } } := rfl

theorem filled_nil (b : Bank) : b.filled [] = b := by
  have hcrowded : (b.header.crowded || decide (1024 - b.entries.length < 0)) = b.header.crowded := by simp
  rw [Bank.filled, List.take_nil, List.append_nil, List.length_nil, if_pos (Nat.zero_le _), hcrowded]

theorem crowdedFaults_nil (b : Bank) : b.crowdedFaults [] = [] := if_neg fun h => absurd h.1 (Nat.not_lt_zero _)

/-- Before the first entry the item has only left the queue. -/
theorem harvested_nil (hrest : s.hv.queue.tail = rest) : harvested rest i [] s.hv.lastEndpoint s = popItem s := by
  rw [harvested_eq, filled_nil, Triplet.set_get, crowdedFaults_nil, List.append_nil, popItem, hrest]

theorem filled_of_room {b : Bank} (h : b.entries.length + l.length < 1024) (e : Entry) :
    b.filled (l ++ [e]) = { b.filled l with entries := (b.filled l).entries ++ [e] }
    ∧ b.crowdedFaults (l ++ [e]) = b.crowdedFaults l := by
  have hlen : (l ++ [e]).length = l.length + 1 := List.length_append
  have hfew : l.length ≤ 1024 - b.entries.length := by omega
  have hfew' : l.length + 1 ≤ 1024 - b.entries.length := by omega
  constructor
  · rw [Bank.filled, Bank.filled, hlen, if_pos hfew, if_pos hfew', List.take_of_length_le (by rw [hlen]; exact hfew'),
      List.take_of_length_le hfew, decide_eq_false (Nat.not_lt.mpr hfew), decide_eq_false (Nat.not_lt.mpr hfew')]
    simp
  · rw [Bank.crowdedFaults, Bank.crowdedFaults, if_neg (by omega), if_neg (by omega)]

theorem filled_of_full {b : Bank} (hb : b.entries.length ≤ 1024) (h : 1024 ≤ b.entries.length + l.length) (e : Entry) :
    b.filled (l ++ [e]) = { b.filled l with header := { (b.filled l).header with
      dropped := satInc (b.filled l).header.dropped, crowded := true } }
    ∧ b.crowdedFaults (l ++ [e]) = b.crowdedFaults l ++ (if (b.filled l).header.crowded then []
      else [⟨.bankCrowded, (b.header.frame.setWidth 16).setWidth 20, 0⟩]) := by
  have hlen : (l ++ [e]).length = l.length + 1 := List.length_append
  have htake : (l ++ [e]).take (1024 - b.entries.length) = l.take (1024 - b.entries.length) :=
    List.take_append_of_le_length (by omega)
  have hover : decide (1024 - b.entries.length < l.length + 1) = true := decide_eq_true (by omega)
  have hdropped : min 65535 (b.header.dropped + (l.length + 1 - (1024 - b.entries.length))) =
      satInc (b.filled l).header.dropped := by
    unfold satInc Bank.filled
    dsimp only
    split <;> omega
  constructor
  · rw [Bank.filled, hlen, htake, if_neg (by omega), hover, Bool.or_true, hdropped]
    rfl
  · have hframe : b.header.frame.setWidth 16 = b.header.frame.extractLsb' 0 16 :=
      BitVec.setWidth_eq_extractLsb' (by decide)
    rw [Bank.crowdedFaults, Bank.crowdedFaults, hlen, hframe]
    unfold Bank.filled
    dsimp only
    cases hc : b.header.crowded with
    | true => simp
    | false =>
      by_cases hmore : 1024 - b.entries.length < l.length
      · simp [hmore]
        omega
      · simp [hmore]
        omega

/-- An entry that fails the capture test or repeats the last endpoint changes nothing. -/
theorem offerEntry_of_refused (hs : s.hv.banks.Sound) (hi : (s.hv.banks.get i).state = .filling)
    (h : captures (s.hv.banks.get i).header e.shape = false ∨ suppressed last e.shape = true) :
    offerEntry e (harvested rest i l last s) = harvested rest i l last s := by
  have hfind : findBank (harvested rest i l last s).hv.banks .filling = some i := by
    rw [harvested_eq]
    exact (findBank_set (by rfl)).trans (hs.findBank_eq (by decide) hi)
  rw [offerEntry, hfind]
  refine if_pos ?_
  rw [harvested_eq, Triplet.get_set, if_pos rfl]
  exact h

/-- A passing entry is appended while there is room, and dropped after that. -/
theorem offerEntry_of_passing (hs : s.hv.banks.Sound) (hi : (s.hv.banks.get i).state = .filling)
    (hc : captures (s.hv.banks.get i).header e.shape = true) (hn : suppressed last e.shape = false) :
    offerEntry e (harvested rest i l last s) = harvested rest i (l ++ [e])
      (if l.length < 1024 - (s.hv.banks.get i).entries.length then lastAfter last e.shape else last) s := by
  have hfind : findBank (harvested rest i l last s).hv.banks .filling = some i := by
    rw [harvested_eq]
    exact (findBank_set (by rfl)).trans (hs.findBank_eq (by decide) hi)
  have hcap := hs.capacity i
  have hbank : (harvested rest i l last s).hv.banks.get i = (s.hv.banks.get i).filled l := by
    rw [harvested_eq, Triplet.get_set, if_pos rfl]
  have hoffered : ¬ (captures ((s.hv.banks.get i).filled l).header e.shape = false ∨
      suppressed (harvested rest i l last s).hv.lastEndpoint e.shape = true) := by
    have hkeep : captures ((s.hv.banks.get i).filled l).header e.shape = captures (s.hv.banks.get i).header e.shape := rfl
    have hlast : (harvested rest i l last s).hv.lastEndpoint = last := rfl
    rw [hkeep, hc, hlast, hn]
    decide
  have hlength : ((s.hv.banks.get i).filled l).entries.length =
      (s.hv.banks.get i).entries.length + min (1024 - (s.hv.banks.get i).entries.length) l.length := by
    rw [Bank.filled, List.length_append, List.length_take]
  rw [offerEntry, hfind]
  dsimp only
  rw [hbank, if_neg hoffered, hlength]
  by_cases hroom : (s.hv.banks.get i).entries.length + l.length < 1024
  · obtain ⟨hfilled, hfaults⟩ := filled_of_room hroom e
    rw [if_pos (by omega), if_pos (by omega), harvested_eq, harvested_eq, hfilled, hfaults]
    simp [setBanks, Triplet.set_set]
  · obtain ⟨hfilled, hfaults⟩ := filled_of_full hcap (Nat.le_of_not_lt hroom) e
    have hfull : ¬ l.length < 1024 - (s.hv.banks.get i).entries.length := by omega
    rw [if_neg (by omega), if_neg hfull, harvested_eq, harvested_eq, hfilled, hfaults]
    cases ((s.hv.banks.get i).filled l).header.crowded <;> simp [setBanks, raise, Triplet.set_set, Bank.filled]

/-- One offer, by whether the entry passes. -/
theorem offerEntry_harvested (hs : s.hv.banks.Sound) (hi : (s.hv.banks.get i).state = .filling) {pass : Bool}
    (hpass : pass = true ↔ captures (s.hv.banks.get i).header e.shape = true ∧ suppressed last e.shape = false) :
    offerEntry e (harvested rest i l last s) = harvested rest i (l ++ if pass then [e] else [])
      (if pass = true ∧ l.length < 1024 - (s.hv.banks.get i).entries.length then lastAfter last e.shape else last) s := by
  cases pass with
  | true =>
    obtain ⟨hc, hn⟩ := hpass.mp rfl
    rw [offerEntry_of_passing hs hi hc hn]
    simp
  | false =>
    rw [offerEntry_of_refused hs hi ?_]
    · simp
    · by_contra hnot
      rw [not_or, Bool.not_eq_false, Bool.not_eq_true] at hnot
      exact absurd (hpass.mpr hnot) Bool.false_ne_true

/-- Entries that the last-endpoint rule leaves alone are filtered by the capture test. -/
theorem offerEntries_harvested (hs : s.hv.banks.Sound) (hi : (s.hv.banks.get i).state = .filling) (es : List Entry)
    (hes : ∀ e ∈ es, suppressed last e.shape = false ∧ lastAfter last e.shape = last) :
    offerEntries es (harvested rest i l last s) =
      harvested rest i (l ++ es.filter fun e => captures (s.hv.banks.get i).header e.shape) last s := by
  induction es generalizing l with
  | nil => rw [List.filter_nil, List.append_nil]; rfl
  | cons e es ih =>
    obtain ⟨hn, hlast⟩ := hes e List.mem_cons_self
    have hstep := offerEntry_harvested (l := l) (rest := rest) (last := last) (e := e) hs hi
      (pass := captures (s.hv.banks.get i).header e.shape) (by simp [hn])
    rw [hlast, ite_self] at hstep
    rw [offerEntries, List.foldl_cons, ← offerEntries, hstep, ih fun x hx => hes x (List.mem_cons_of_mem _ hx),
      List.filter_cons, List.append_assoc]
    cases captures (s.hv.banks.get i).header e.shape <;> rfl

/-- With no bank FILLING an offer is lost (R28). -/
theorem offerEntries_of_none (h : ∀ i, (s.hv.banks.get i).state ≠ .filling) (es : List Entry) : offerEntries es s = s := by
  induction es with
  | nil => rfl
  | cons e es ih =>
    rw [offerEntries, List.foldl_cons, offerEntry, findBank_eq_none_iff.mpr h]
    exact ih

/-! ### The items (R31, R33) -/

theorem exec_segmentItemTaken_of_segment {p0 p1 : Pt} {so : Span} {o : Option Span} {tag : Half}
    (h : harvestHead s = some (.segment p0 p1 so o tag)) :
    exec .segmentItemTaken s = .next (offerEntries (segmentEntries p0 p1 so o tag) (popItem s)) := by
  change execSegmentItemTaken s = _
  rw [execSegmentItemTaken, h]
  rfl

theorem exec_circleItemTaken_of_circle {c : Pt} {r : Nat} {so : Span} {tag : Half}
    (h : harvestHead s = some (.circle c r so tag)) :
    exec .circleItemTaken s = .next (offerEntries (circleEntries c r so tag) (popItem s)) := by
  change execCircleItemTaken s = _
  rw [execCircleItemTaken, h]
  rfl

theorem endpoint_passes_iff {h : Header} {last : Option Pt} {p : Pt} : (h.TakesPoint p ∧ last ≠ some p) ↔
    captures h (.point .endpoint p) = true ∧ suppressed last (.point .endpoint p) = false := by
  rw [captures_point, decide_eq_true_eq, suppressed, beq_eq_false_iff_ne]

theorem length_ite_singleton (b : Bool) (e : Entry) : (if b then [e] else []).length = b.toNat := by
  cases b <;> rfl

theorem filter_singleton (h : Header) (e : Entry) {pass : Bool} (hpass : pass = true ↔ captures h e.shape = true) :
    [e].filter (fun e => captures h e.shape) = if pass then [e] else [] := by
  rw [List.filter_cons, List.filter_nil, Bool.eq_iff_iff.mpr hpass]

/-- The MIDPOINT and the SEGMENT of a SEGMENT item that pass. -/
theorem filter_midpoint_segment {h : Header} {p0 p1 mid : Pt} {so : Span} {o : Option Span} {tag : Half} {am as : Bool}
    (ham : am = true ↔ p0.OnScreen ∧ p1.OnScreen ∧ h.TakesPoint mid)
    (has : as = true ↔ captures h (.segment p0 p1) = true) :
    ((if p0.OnScreen ∧ p1.OnScreen then [(⟨.point .midpoint mid, so, o, tag, false⟩ : Entry)] else [])
        ++ [(⟨.segment p0 p1, so, o, tag, false⟩ : Entry)]).filter (fun e => captures h e.shape) =
      (if am then [⟨.point .midpoint mid, so, o, tag, false⟩] else [])
        ++ if as then [⟨.segment p0 p1, so, o, tag, false⟩] else [] := by
  rw [List.filter_append, filter_singleton h _ has]
  congr 1
  by_cases hscreen : p0.OnScreen ∧ p1.OnScreen
  · rw [if_pos hscreen]
    refine filter_singleton h _ ?_
    rw [ham, captures_point, decide_eq_true_eq]
    exact ⟨fun hall => hall.2.2, fun hmid => ⟨hscreen.1, hscreen.2, hmid⟩⟩
  · rw [if_neg hscreen, List.filter_nil, if_neg fun hm => hscreen ⟨(ham.mp hm).1, (ham.mp hm).2.1⟩]

/-- Settles O34. -/
theorem segmentItemTaken : Obligations.SegmentItemTaken := by
  intro s p0 p1 mid so org tag rest hb hop hq hmid
  have hsound := banksOk_iff.mp hb
  have htail : s.hv.queue.tail = rest := by rw [hq]; rfl
  rw [exec_segmentItemTaken_of_segment (harvestHead_of_active hop hq)]
  refine ⟨fun hnone => ?_, fun i h a0 a1 am as room last0 last1 hi hh hroom ha0 hlast0 ha1 hlast1 ham has => ?_⟩
  · rw [offerEntries_of_none (s := popItem s) hnone, popItem, htail]
  · subst hh
    have h0 := offerEntry_harvested (rest := rest) (l := []) (last := s.hv.lastEndpoint)
      (e := ⟨.point .endpoint p0, so, org, tag, false⟩) hsound hi (ha0.trans endpoint_passes_iff)
    rw [← hroom] at h0
    have h1 := offerEntry_harvested (rest := rest) (l := if a0 then [⟨.point .endpoint p0, so, org, tag, false⟩] else [])
      (last := last0) (e := ⟨.point .endpoint p1, so, org, tag, false⟩) hsound hi (ha1.trans endpoint_passes_iff)
    rw [length_ite_singleton, ← hroom] at h1
    rw [List.nil_append] at h0
    have h0' := h0.trans (congrArg (fun x => harvested rest i _ x s) hlast0.symm)
    have h1' := h1.trans (congrArg (fun x => harvested rest i _ x s) hlast1.symm)
    have hrest := offerEntries_harvested (rest := rest) (last := last1)
      (l := (if a0 then [⟨.point .endpoint p0, so, org, tag, false⟩] else [])
        ++ if a1 then [⟨.point .endpoint p1, so, org, tag, false⟩] else []) hsound hi
      ((if p0.OnScreen ∧ p1.OnScreen then [⟨.point .midpoint mid, so, org, tag, false⟩] else [])
        ++ [⟨.segment p0 p1, so, org, tag, false⟩]) (by
          intro e he
          rw [List.mem_append, List.mem_singleton] at he
          obtain he | rfl := he
          · split at he
            · rw [List.mem_singleton.mp he]
              exact ⟨rfl, rfl⟩
            · exact nomatch he
          · exact ⟨rfl, rfl⟩)
    rw [filter_midpoint_segment ham (has.trans (captures_segment _ p0 p1).symm), ← h1', ← h0', harvested_nil htail] at hrest
    rw [← List.append_assoc] at hrest
    rw [← hrest, hmid]
    rfl

/-- The points of a CIRCLE item, with their kinds (R33). -/
def circlePoints (q : Pt) (r : Nat) : List (PointKind × Pt) :=
  (.centre, q) :: (if r = 0 then [] else [(.quadrant, ⟨q.x + r, q.y⟩), (.quadrant, ⟨q.x, q.y + r⟩),
    (.quadrant, ⟨q.x - r, q.y⟩), (.quadrant, ⟨q.x, q.y - r⟩)])

theorem circleEntries_eq (q : Pt) (r : Nat) (so : Span) (tag : Half) : circleEntries q r so tag =
    (circlePoints q r).map (fun x => ⟨.point x.1 x.2, so, none, tag, false⟩)
      ++ if r = 0 then [] else [⟨.circle q r, so, none, tag, false⟩] := by
  unfold circleEntries circlePoints
  by_cases hr : r = 0
  · simp [hr]
  · simp [hr, quadrants]

theorem filter_circleEntries {h : Header} {q : Pt} {r : Nat} {so : Span} {tag : Half} {ring : Bool}
    (hring : ring = true ↔ r ≠ 0 ∧ captures h (.circle q r) = true) :
    (circleEntries q r so tag).filter (fun e => captures h e.shape) =
      (((circlePoints q r).filter fun x => decide (h.TakesPoint x.2)).map fun x => ⟨.point x.1 x.2, so, none, tag, false⟩)
        ++ if ring then [⟨.circle q r, so, none, tag, false⟩] else [] := by
  rw [circleEntries_eq, List.filter_append, List.filter_map]
  congr 1
  · congr 1
    exact List.filter_congr fun x _ => captures_point h x.1 x.2
  · by_cases hr : r = 0
    · rw [if_pos hr, List.filter_nil, if_neg fun h => (hring.mp h).1 hr]
    · rw [if_neg hr]
      exact filter_singleton h _ (hring.trans (and_iff_right hr))

/-- No entry of a CIRCLE item is an ENDPOINT. -/
theorem not_endpoint_of_mem_circleEntries {q : Pt} {r : Nat} {so : Span} {tag : Half} (last : Option Pt)
    (h : e ∈ circleEntries q r so tag) : suppressed last e.shape = false ∧ lastAfter last e.shape = last := by
  rw [circleEntries_eq, List.mem_append] at h
  obtain h | h := h
  · obtain ⟨x, hx, rfl⟩ := List.mem_map.mp h
    have hkind : x.1 = .centre ∨ x.1 = .quadrant := by
      unfold circlePoints at hx
      split at hx <;> simp at hx
      · exact .inl (by rw [hx])
      · obtain rfl | rfl | rfl | rfl | rfl := hx <;> simp
    obtain hk | hk := hkind
    all_goals
      dsimp only
      rw [hk]
      exact ⟨rfl, rfl⟩
  · split at h
    · exact nomatch h
    · rw [List.mem_singleton.mp h]
      exact ⟨rfl, rfl⟩

/-- Settles O35. -/
theorem circleItemTaken : Obligations.CircleItemTaken := by
  intro s q r so tag rest hb hop hq
  have hsound := banksOk_iff.mp hb
  have htail : s.hv.queue.tail = rest := by rw [hq]; rfl
  rw [exec_circleItemTaken_of_circle (harvestHead_of_active hop hq)]
  refine ⟨fun hnone => ?_, fun i h ring points hi hh hpoints hring => ?_⟩
  · rw [offerEntries_of_none (s := popItem s) hnone, popItem, htail]
  · subst hh
    rw [← harvested_nil (i := i) htail,
      offerEntries_harvested hsound hi _ (fun e he => not_endpoint_of_mem_circleEntries _ he), List.nil_append,
      filter_circleEntries (hring.trans (and_congr_right fun _ => (captures_circle _ q r).symm)), hpoints]
    rfl

end Sys2Proof.Machine

/-! PROOFS. The drops of the harvest queue (section 2.1). -/

namespace Sys2Proof.Machine

variable {s : State} {q l r : List QItem} {it g : QItem}

/-! ### The frame that a drop is noted on (R24) -/

/-- The run of items holds no START. -/
def NoStart (q : List QItem) : Prop := ∀ f c d n, QItem.start f c d n ∉ q

theorem NoStart.reverse (h : NoStart q) : NoStart q.reverse := fun f c d n hmem =>
  h f c d n (List.mem_reverse.mp hmem)

theorem noteDropRev_append (h : NoStart q) (rest : List QItem) :
    noteDropRev (q ++ rest) = (noteDropRev rest).map fun x => (q ++ x.1, x.2) := by
  induction q with
  | nil =>
    rw [List.nil_append]
    exact Option.map_id'.symm
  | cons it q ih =>
    have hq : NoStart q := fun f c d n hmem => h f c d n (List.mem_cons_of_mem it hmem)
    have hstep : ∀ x : Option (List QItem × BitVec 32 × Bool), (x.map fun y => (q ++ y.1, y.2)).map (fun y => (it :: y.1, y.2)) =
        x.map fun y => (it :: q ++ y.1, y.2) := by
      intro x
      cases x <;> rfl
    cases it with
    | start f c d n => exact absurd List.mem_cons_self (h f c d n)
    | segment | circle | endMark | discard =>
      rw [List.cons_append, noteDropRev, ih hq]
      exact hstep _

theorem noteDropRev_of_noStart (h : NoStart q) : noteDropRev q.reverse = none := by
  have happend := noteDropRev_append h.reverse []
  rwa [List.append_nil] at happend

/-- The newest START of a queue takes the note. -/
theorem noteDropRev_of_start {f : BitVec 32} {c : Pt} {d : Nat} {n : Bool} (h : NoStart r) :
    noteDropRev (l ++ .start f c d n :: r).reverse =
      some (r.reverse ++ .start f c (satInc d) true :: l.reverse, f, !n) := by
  rw [List.reverse_append, List.reverse_cons, List.append_assoc, noteDropRev_append h.reverse]
  rfl

theorem overrun_frame (f : BitVec 32) : f.setWidth 16 = f.extractLsb' 0 16 := BitVec.setWidth_eq_extractLsb' (by decide)

/-- A drop while the frame's START is queued. -/
theorem recordDrop_of_start {f : BitVec 32} {c : Pt} {d : Nat} {n : Bool} (h : NoStart r) (after : List QItem) :
    recordDrop (l ++ .start f c d n :: r) after s = { s with
      hv := { s.hv with queue := l ++ .start f c (min 65535 (d + 1)) true :: r ++ after }
      flt := { s.flt with raised := s.flt.raised ++
        if n then [] else [⟨.queueOverrun, (f.extractLsb' 0 16).setWidth 20, 0⟩] } } := by
  have hqueue : (r.reverse ++ .start f c (satInc d) true :: l.reverse).reverse = l ++ .start f c (satInc d) true :: r := by
    simp
  rw [recordDrop, noteDropRev_of_start h, ← overrun_frame]
  dsimp only
  rw [hqueue]
  cases n with
  | true => simp [raiseOverrun, satInc]
  | false => simp [raiseOverrun, raise, satInc]

/-- A drop after the frame's START has been taken. -/
theorem recordDrop_of_filling {i : BankId} {b : Bank} (h : NoStart q) (hs : s.hv.banks.Sound)
    (hi : (s.hv.banks.get i).state = .filling) (hb : b = s.hv.banks.get i) (after : List QItem) :
    recordDrop q after s = { s with
      hv := { s.hv with
        queue := q ++ after
        banks := s.hv.banks.set i { b with
          header := { b.header with dropped := min 65535 (b.header.dropped + 1), incomplete := true } } }
      flt := { s.flt with raised := s.flt.raised ++
        if b.header.incomplete then [] else [⟨.queueOverrun, (b.header.frame.extractLsb' 0 16).setWidth 20, 0⟩] } } := by
  have hfind := hs.findBank_eq (by decide) hi
  subst hb
  rw [recordDrop, noteDropRev_of_noStart h, ← overrun_frame]
  dsimp only
  rw [hfind]
  cases hinc : (s.hv.banks.get i).header.incomplete with
  | true => simp [raiseOverrun, hinc, satInc, setBanks]
  | false => simp [raiseOverrun, hinc, raise, satInc, setBanks]

/-! ### The newest geometry item (R23) -/

theorem splitNewest_eq (hg : g.isGeometry = true) (hr : ∀ x ∈ r, x.isGeometry = false) :
    splitNewest (l ++ g :: r) = (l, r) := by
  have hmarkers : ∀ x ∈ r.reverse, (!x.isGeometry) = true := fun x hx => by rw [hr x (List.mem_reverse.mp hx)]; rfl
  have hstop : (!g.isGeometry) = false := by rw [hg]; rfl
  rw [splitNewest, List.reverse_append, List.reverse_cons, List.append_assoc, List.dropWhile_append_of_pos hmarkers,
    List.takeWhile_append_of_pos hmarkers, List.singleton_append, List.dropWhile_cons_of_neg (by simp [hstop]),
    List.takeWhile_cons_of_neg (by simp [hstop])]
  simp

theorem queueItem_of_full (h : 16 ≤ geometryCount s.hv.queue) : queueItem it s = recordDrop s.hv.queue [] s :=
  if_neg (Nat.not_lt.mpr h)

theorem queueMarker_of_full (h : 16 ≤ geometryCount s.hv.queue) (hq : s.hv.queue = l ++ g :: r)
    (hg : g.isGeometry = true) (hr : ∀ x ∈ r, x.isGeometry = false) :
    queueMarker it s = recordDrop l (r ++ [it]) s := by
  rw [queueMarker, if_neg (Nat.not_lt.mpr h), hq, splitNewest_eq hg hr]

/-- Settles O36. -/
theorem queueDrops : Obligations.QueueDrops := by
  intro s
  refine ⟨fun it hroom => ⟨queueItem_of_room hroom, queueMarker_of_room hroom⟩, fun it f c d n l r hfull hq hr => ?_,
    fun it i b hfull hq hok hi hb => ?_, fun m g f c d n l k r hfull hq hk hg hr => ?_,
    fun m g l r i b hfull hq hl hg hr hok hi hb => ?_⟩
  · rw [queueItem_of_full hfull, hq, recordDrop_of_start hr, List.append_nil]
  · rw [queueItem_of_full hfull, recordDrop_of_filling hq (banksOk_iff.mp hok) hi hb, List.append_nil]
  · rw [queueMarker_of_full hfull (l := l ++ .start f c d n :: k) (by rw [hq]) hg hr, recordDrop_of_start hk]
  · rw [queueMarker_of_full hfull hq hg hr, recordDrop_of_filling hl (banksOk_iff.mp hok) hi hb]

end Sys2Proof.Machine

/-! PROOFS. The examination of entries, the choice of the winner and the distance of a published snap (sections 3.3 and 3.4). -/

namespace Sys2Proof.Machine

variable {s t : State} {sr : Search} {e : Entry} {n : Nat}

/-! ### Contenders by shape (R48 to R50) -/

theorem contendersOf_point {k : PointKind} {p : Pt} (h : e.shape = .point k p) : contendersOf sr e n =
    if 1 ≤ sr.prio.of k.snapKind then [⟨k.snapKind, p, dist2 p sr.cursor, n, false, e.source.addr, e.tag⟩] else [] := by
  rw [contendersOf, h]
  rfl

theorem contendersOf_circle {c : Pt} {r : Nat} (h : e.shape = .circle c r) : contendersOf sr e n =
    if 1 ≤ sr.prio.nearest then [⟨.nearest, nearestOnCircle c r sr.cursor,
      dist2 (nearestOnCircle c r sr.cursor) sr.cursor, n, false, e.source.addr, e.tag⟩] else [] := by
  rw [contendersOf, h]
  rfl

/-- The PERPENDICULAR contender of a segment: its foot from the anchor, when there are both. -/
def footContenders (sr : Search) (e : Entry) (n : Nat) (p0 p1 : Pt) : List Contender :=
  match sr.anchor.bind fun a => perpendicularFoot a p0 p1 with
  | none => []
  | some f => if 1 ≤ sr.prio.perpendicular then
      [⟨.perpendicular, f, dist2 f sr.cursor, n, true, e.source.addr, e.tag⟩] else []

theorem contendersOf_segment {p0 p1 : Pt} (h : e.shape = .segment p0 p1) : contendersOf sr e n =
    (if 1 ≤ sr.prio.nearest then [⟨.nearest, nearestOnSegment p0 p1 sr.cursor,
      dist2 (nearestOnSegment p0 p1 sr.cursor) sr.cursor, n, false, e.source.addr, e.tag⟩] else [])
    ++ footContenders sr e n p0 p1 := by
  rw [contendersOf, h, footContenders]
  dsimp only
  cases sr.anchor.bind fun a => perpendicularFoot a p0 p1 with
  | none => simp only [ite_self]; rfl
  | some f => rfl

theorem examine_of_withdrawn (h : e.withdrawn = true) : examine e sr = { sr with next := sr.next + 1 } := if_pos h

theorem examine_of_standing (h : e.withdrawn = false) {hit : Bool}
    (hhit : hit = true ↔ sr.holdMet = false ∧ ∃ h, sr.identity = some h ∧ h.matchesEntry e = true) : examine e sr = { sr with
      next := sr.next + 1
      kept := sr.kept ++ (contendersOf sr e sr.next).filter fun c => decide (c.d2 ≤ sr.aperture * sr.aperture)
      holdMet := sr.holdMet || hit
      hold := if hit then (contendersOf sr e sr.next).find? (fun c => decide (sr.identity.map HoldId.kind = some c.kind))
        else sr.hold } := by
  have hfound : hit = (match sr.identity with
      | none => false
      | some h => !sr.holdMet && h.matchesEntry e) := by
    rw [Bool.eq_iff_iff, hhit]
    cases sr.identity <;> simp
  have hhold : (if hit then sr.identity.bind (fun h => holdFrom sr h e sr.next) else sr.hold) =
      if hit then (contendersOf sr e sr.next).find? (fun c => decide (sr.identity.map HoldId.kind = some c.kind))
        else sr.hold := by
    cases hid : sr.identity with
    | none =>
      have hmiss : hit = false := by rw [hfound, hid]
      rw [hmiss]
      rfl
    | some h =>
      refine if_congr Iff.rfl ?_ rfl
      rw [Option.bind_some, holdFrom]
      congr 1
      funext c
      rw [Option.map_some, Bool.eq_iff_iff, beq_iff_eq, decide_eq_true_eq, Option.some.injEq, eq_comm]
  rw [← hhold, hfound]
  exact if_neg (by rw [h]; exact Bool.false_ne_true)

theorem matchesEntry_point {h : HoldId} {k : PointKind} {p : Pt} (hs : e.shape = .point k p) :
    h.matchesEntry e = true ↔ e.source.addr = h.source ∧ h.kind = k.snapKind ∧ h.point = some p := by
  rw [HoldId.matchesEntry, hs]
  simp only [Bool.and_eq_true, beq_iff_eq]
  rw [@eq_comm _ k.snapKind]

theorem matchesEntry_segment {h : HoldId} {p0 p1 : Pt} (hs : e.shape = .segment p0 p1) :
    h.matchesEntry e = true ↔ e.source.addr = h.source ∧ (h.kind = .nearest ∨ h.kind = .perpendicular) := by
  rw [HoldId.matchesEntry, hs]
  simp

theorem matchesEntry_circle {h : HoldId} {c : Pt} {r : Nat} (hs : e.shape = .circle c r) :
    h.matchesEntry e = true ↔ e.source.addr = h.source ∧ h.kind = .nearest := by
  rw [HoldId.matchesEntry, hs]
  simp

theorem exec_entryExamined {i : BankId} (hsr : s.se.search = some sr) (hi : sr.bank = some i)
    (he : (s.hv.banks.get i).entries[sr.next]? = some e) :
    exec .entryExamined s = .next { s with se := { s.se with search := some (examine e sr) } } := by
  have hnext : nextEntry sr s = some e := by rw [nextEntry, hi]; exact he
  change execEntryExamined s = _
  rw [execEntryExamined, hsr]
  dsimp only
  rw [hnext]

/-- Settles O38. -/
theorem entryExamined : Obligations.EntryExamined := by
  intro s sr i e l hit hsr hi he hl hhit
  have hcontenders : l = contendersOf sr e sr.next := by
    cases hshape : e.shape with
    | point k p =>
      rw [contendersOf_point hshape]
      rw [hshape] at hl
      cases k <;> exact hl
    | segment p0 p1 =>
      rw [contendersOf_segment hshape, footContenders]
      rw [hshape] at hl
      rw [hl]
      cases sr.anchor with
      | none => rfl
      | some a => cases hfoot : perpendicularFoot a p0 p1 <;> simp [hfoot]
    | circle c r =>
      rw [contendersOf_circle hshape]
      rw [hshape] at hl
      exact hl
  have hfound : hit = true ↔ sr.holdMet = false ∧ ∃ h, sr.identity = some h ∧ h.matchesEntry e = true := by
    rw [hhit]
    refine and_congr_right fun _ => exists_congr fun h => and_congr_right fun _ => ?_
    cases hshape : e.shape with
    | point k p =>
      rw [matchesEntry_point hshape]
      cases k <;> exact Iff.rfl
    | segment p0 p1 => exact (matchesEntry_segment hshape).symm
    | circle c r => exact (matchesEntry_circle hshape).symm
  rw [exec_entryExamined hsr hi he, hcontenders]
  exact ⟨fun hw => by rw [examine_of_withdrawn hw], fun hw => by rw [examine_of_standing hw hfound]⟩

/-! ### The winner (R52, R54) -/

/-- `c` wins among `l`, which were examined in order: it beats every earlier one and is beaten by no later one (R52). -/
def Wins (p : Priorities) (l : List Contender) (c : Contender) : Prop :=
  ∃ before after, l = before ++ c :: after
    ∧ (∀ w ∈ before, p.of w.kind < p.of c.kind ∨ (p.of w.kind = p.of c.kind ∧ c.d2 < w.d2))
    ∧ (∀ w ∈ after, p.of w.kind < p.of c.kind ∨ (p.of w.kind = p.of c.kind ∧ c.d2 ≤ w.d2))

theorem outranks_iff (p : Priorities) (c w : Contender) : outranks p c w = true ↔
    p.of w.kind < p.of c.kind ∨ (p.of w.kind = p.of c.kind ∧ c.d2 < w.d2) := by
  rw [outranks, Bool.or_eq_true, Bool.and_eq_true, decide_eq_true_eq, decide_eq_true_eq, beq_iff_eq,
    @eq_comm _ (p.of c.kind)]

/-- One more contender is examined. -/
theorem Wins.append {p : Priorities} {l : List Contender} {w c : Contender} (h : Wins p l w) :
    Wins p (l ++ [c]) (if outranks p c w then c else w) := by
  obtain ⟨before, after, rfl, hbefore, hafter⟩ := h
  by_cases hc : outranks p c w = true
  · have hbeats := (outranks_iff p c w).mp hc
    rw [if_pos hc]
    refine ⟨before ++ w :: after, [], rfl, fun x hx => ?_, by simp⟩
    rw [List.mem_append, List.mem_cons] at hx
    obtain hx | rfl | hx := hx
    · have hxw := hbefore x hx
      omega
    · exact hbeats
    · have hxw := hafter x hx
      omega
  · have hstays := mt (outranks_iff p c w).mpr hc
    rw [if_neg hc]
    refine ⟨before, after ++ [c], by rw [List.append_assoc, List.cons_append], hbefore, fun x hx => ?_⟩
    rw [List.mem_append, List.mem_singleton] at hx
    obtain hx | rfl := hx
    · exact hafter x hx
    · omega

/-- The better of the best so far and the next contender. -/
def betterOf (p : Priorities) (best : Option Contender) (c : Contender) : Option Contender :=
  match best with
  | none => some c
  | some w => if outranks p c w then some c else some w

theorem bestKept_eq (sr : Search) : bestKept sr = sr.kept.foldl (betterOf sr.prio) none := rfl

theorem foldl_betterOf (p : Priorities) (l : List Contender) :
    (l = [] → l.foldl (betterOf p) none = none)
    ∧ (l ≠ [] → ∃ c, l.foldl (betterOf p) none = some c ∧ Wins p l c) := by
  refine ⟨fun h => by rw [h]; rfl, fun h => ?_⟩
  induction l using List.reverseRecOn with
  | nil => exact absurd rfl h
  | append_singleton l c ih =>
    rw [List.foldl_append]
    by_cases hl : l = []
    · subst hl
      exact ⟨c, rfl, [], [], rfl, by simp, by simp⟩
    · obtain ⟨w, hw, hwins⟩ := ih hl
      refine ⟨if outranks p c w then c else w, ?_, hwins.append⟩
      rw [hw]
      change (if outranks p c w then some c else some w) = _
      split <;> rfl

theorem Wins.mem {p : Priorities} {l : List Contender} {c : Contender} (h : Wins p l c) : c ∈ l := by
  obtain ⟨before, after, rfl, -⟩ := h
  exact List.mem_append_right _ List.mem_cons_self

theorem holdWins_iff (sr : Search) (h : Contender) : holdWins sr h = true ↔
    h.d2 ≤ (sr.aperture + sr.margin) * (sr.aperture + sr.margin) ∧ ∀ c ∈ sr.kept, sr.prio.of c.kind ≤ sr.prio.of h.kind := by
  simp only [holdWins, Bool.and_eq_true, decide_eq_true_eq, List.all_eq_true]

/-- Without a hold that wins, the best kept contender is the winner. -/
theorem objectWinner_of_no_hold (h : ∀ c, sr.hold = some c → holdWins sr c = false) :
    objectWinner sr = (bestKept sr).map fun c => (c, false) := by
  rw [objectWinner]
  cases hhold : sr.hold with
  | none => rfl
  | some c => exact if_neg (by rw [h c hhold]; exact Bool.false_ne_true)

theorem objectWinner_of_hold {c : Contender} (hhold : sr.hold = some c) (hwins : holdWins sr c = true) :
    objectWinner sr = some (c, true) := by
  rw [objectWinner, hhold]
  exact if_pos hwins

/-- Settles O39. -/
theorem winnerChosen : Obligations.WinnerChosen := by
  intro sr
  refine ⟨fun h hhold hd hprio => objectWinner_of_hold hhold ((holdWins_iff sr h).mpr ⟨hd, hprio⟩), fun hloses => ?_⟩
  have hnone : objectWinner sr = (bestKept sr).map fun c => (c, false) := objectWinner_of_no_hold fun c hc => by
    rw [← Bool.not_eq_true, holdWins_iff]
    rintro ⟨hd, hprio⟩
    obtain hfar | ⟨w, hw, hlt⟩ := hloses c hc
    · omega
    · exact absurd hlt (Nat.not_lt.mpr (hprio w hw))
  obtain ⟨hempty, hsome⟩ := foldl_betterOf sr.prio sr.kept
  rw [hnone, bestKept_eq]
  refine ⟨fun hk => by rw [hempty hk]; rfl, fun hk => ?_⟩
  obtain ⟨c, hc, before, after, hsplit, hbefore, hafter⟩ := hsome hk
  exact ⟨before, c, after, hsplit, by rw [hc]; rfl, hbefore, hafter⟩

/-! ### The distance of a published snap (R54, R66) -/

end Sys2Proof.Machine

/-! PROOFS. The completion of a search (sections 3.4 and 3.5): the distance of a published snap, and what a completion does. -/

namespace Sys2Proof.Machine

variable {s t : State} {sr : Search}

/-! ### The distance of a published snap (R54, R66) -/

/-- An object snap lies within the aperture of its search cursor, or within aperture plus margin when it is HELD. -/
def Near (sr : Search) (r : Result) : Prop := ∀ k, r.kind = .object k →
  dist2 r.point r.cursor ≤ r.d2 ∧ (r.held = false → r.d2 ≤ sr.aperture * sr.aperture)
    ∧ r.d2 ≤ (sr.aperture + sr.margin) * (sr.aperture + sr.margin)

theorem Near.of_reset (sr : Search) : Near sr Result.resetValue := fun _ hk => nomatch hk

/-- A result marked OUT OF RANGE lies where it lay (R44). -/
theorem near_cursor (sr : Search) : KeptByCursor fun t => Near sr t.se.result where
  capture _ _ _ _ h := h
  ring _ _ _ _ h := by simpa using h
  proximity b s h := by
    obtain ⟨-, heq⟩ | ⟨-, heq⟩ := setProximity_cases s b
    · rwa [heq]
    · rw [heq]
      cases b with
      | true => simpa [searchProximity] using h
      | false =>
        rw [show (trigger (searchProximity false (setEvent .proximity { s with cu := { s.cu with inRange := false } }))).se
          = { s.se with motion := false, result := { s.se.result with outOfRange := true }, startOwed :=
              s.se.startOwed && !s.se.presses.isEmpty } by simp [searchProximity]]
        exact fun k hk => h k hk
  move _ _ h := h
  prev _ _ h := h
  motion _ h := by simpa using h
  press _ _ h := by simpa using h
  trigger _ h := by simpa using h
  settings _ _ _ _ _ _ _ _ h := h

theorem near_execution (sr : Search) : KeptByExecution fun t => Near sr t.se.result where
  effect k e s h := by
    cases k
    case configure =>
      obtain ⟨-, heq⟩ | heq := applyConfigure_cases e s
      · simpa [effectOf, heq, configureWith] using h
      · exact heq.symm ▸ h
    case restart =>
      rw [show ((effectOf .restart e s).1).se = _ from (cleared_restartReset s).search]
      exact Near.of_reset sr
    case setInput => exact (near_cursor sr).applySetInput e h
    case setCursor => exact (near_cursor sr).applySetCursor e h
    all_goals simpa [effectOf] using h
  outcome _ _ _ h := by simpa using h
  clear _ _ h := h
  record _ _ _ h := by simpa using h
  bypass _ _ h := by simpa using h
  owe _ h := h

/-- No fallback is an object snap (R55). -/
theorem not_object_fallback (sr : Search) (k : SnapKind) : (fallback sr).kind ≠ .object k := by
  unfold fallback
  have hplain : (if sr.grid.on then ResultKind.grid else ResultKind.free) ≠ .object k := by
    split <;> simp
  dsimp only
  split
  · exact hplain
  · split
    · exact hplain
    · simp

/-- The winner lies within the aperture, or within aperture plus margin when it is HELD (R54). -/
theorem objectWinner_near (h : SearchOk s) (hsr : s.se.search = some sr) {c : Contender} {held : Bool}
    (hw : objectWinner sr = some (c, held)) : c.Measured sr.cursor
      ∧ (held = false → c.d2 ≤ sr.aperture * sr.aperture)
      ∧ c.d2 ≤ (sr.aperture + sr.margin) * (sr.aperture + sr.margin) := by
  have hwiden : sr.aperture * sr.aperture ≤ (sr.aperture + sr.margin) * (sr.aperture + sr.margin) :=
    Nat.mul_le_mul (Nat.le_add_right _ _) (Nat.le_add_right _ _)
  by_cases hhold : ∃ x, sr.hold = some x ∧ holdWins sr x = true
  · obtain ⟨x, hx, hwins⟩ := hhold
    obtain ⟨rfl, rfl⟩ : x = c ∧ true = held := by
      rw [objectWinner_of_hold hx hwins] at hw
      exact Prod.ext_iff.mp (Option.some.inj hw)
    exact ⟨h.hold sr hsr x hx, fun hheld => (by simp at hheld), ((holdWins_iff sr x).mp hwins).1⟩
  · rw [objectWinner_of_no_hold (fun x hx => by
      rw [← Bool.not_eq_true]
      exact fun hwins => hhold ⟨x, hx, hwins⟩)] at hw
    obtain ⟨x, hbest, hx⟩ := Option.map_eq_some_iff.mp hw
    obtain ⟨rfl, -⟩ := Prod.ext_iff.mp hx
    obtain ⟨hempty, hsome⟩ := foldl_betterOf sr.prio sr.kept
    have hkept : sr.kept ≠ [] := fun hk => by
      rw [bestKept_eq, hempty hk] at hbest
      cases hbest
    obtain ⟨y, hy, hwins⟩ := hsome hkept
    obtain rfl : y = x := Option.some.inj (hy.symm.trans hbest)
    obtain ⟨hmeasured, hin⟩ := h.kept sr hsr y hwins.mem
    exact ⟨hmeasured, fun _ => hin, hin.trans hwiden⟩

theorem near_resultOf (h : SearchOk s) (hsr : s.se.search = some sr) : Near sr (resultOf sr s) := by
  intro k hk
  rw [resultOf] at hk ⊢
  cases hw : objectWinner sr with
  | none =>
    rw [hw] at hk
    exact absurd hk (not_object_fallback sr k)
  | some w =>
    obtain ⟨c, held⟩ := w
    obtain ⟨hmeasured, hheld, hwide⟩ := objectWinner_near h hsr hw
    exact ⟨(dist2_clampPt_le c.point (h.cursor sr hsr)).trans (le_of_eq hmeasured.symm), hheld, hwide⟩

/-! ### Completion, step by step (R58) -/

theorem searchDone_of_examined (h : Examined sr s) : searchDone sr s = true := by
  unfold searchDone nextEntry
  cases hi : sr.bank with
  | none => rfl
  | some i => simpa using h i hi

theorem exec_searchComplete (hsr : s.se.search = some sr) (hdone : Examined sr s) :
    exec .searchComplete s = .next (completeSearch sr s) := by
  rw [show exec .searchComplete s = execSearchComplete s from rfl, execSearchComplete, hsr]
  exact congrArg Host.Outcome.next (if_pos (searchDone_of_examined hdone))

theorem publishAndApply_result (sr : Search) (s : State) : (publishAndApply sr s).se.result = resultOf sr s := by
  have hpublished : (publish sr s).se = { s.se with result := resultOf sr s, identity := identityOf sr } := rfl
  have hpromoted : ∀ u, (promote u).se.result = u.se.result := fun u => by simp
  unfold publishAndApply
  dsimp only
  split <;> simp [hpublished]

/-- Settles O43. -/
theorem snapDistance : Obligations.SnapDistance := by
  intro s t sr k hok hsr hdone hx hk
  obtain rfl : completeSearch sr s = t := Host.Outcome.next.inj ((exec_searchComplete hsr hdone).symm.trans hx)
  refine (near_execution sr).finishCompletion _ _ ?_ k hk
  exact (publishAndApply_result sr s).symm ▸ near_resultOf hok hsr

end Sys2Proof.Machine

/-! PROOFS. The completion of a search and the taking of faults (sections 3.5, 6.2, 10.3, 12.2 and 12.3). -/

namespace Sys2Proof.Machine

variable {s t : State} {sr : Search}

/-! ### The trigger of the composer -/

/-- A trigger reads the composer and the inputs of a pass, and writes the composer alone. -/
theorem trigger_congr (hport : t.port = s.port) (hcomp : t.comp = s.comp) (hinputs : passInputs t = passInputs s) :
    trigger t = { t with comp := (trigger s).comp } := by
  by_cases hop : s.port.op = .active
  · have hop' : t.port.op = .active := by rw [hport, hop]
    cases hpass : s.comp.pass with
    | none => rw [trigger_of_quiet hop hpass, trigger_of_quiet hop' (by rw [hcomp, hpass]), hinputs, hcomp]
    | some i =>
      have hsome : s.comp.pass ≠ none := by simp [hpass]
      rw [trigger_of_composing hop hsome, trigger_of_composing hop' (by rwa [hcomp]), hcomp]
  · rw [trigger_of_not_active hop, trigger_of_not_active (by rwa [hport]), ← hcomp]

theorem trigger_eq (s : State) : trigger s = { s with comp := (trigger s).comp } := trigger_congr rfl rfl rfl

/-! ### Publication and promotion (R29, R57 to R59) -/

/-- The banks after a promotion: a READY bank becomes CURRENT and the old CURRENT bank EMPTY. -/
def promotedBanks (b : Triplet Bank) : Triplet Bank :=
  match findBank b .ready with
  | none => b
  | some i => restateBank .current i (releaseBank .current b)

/-- A promotion, field by field. -/
theorem promote_of_active (hop : s.port.op = .active) : promote s = { s with
    hv := { s.hv with banks := promotedBanks s.hv.banks }
    se := { s.se with motion := s.se.motion || ((findBank s.hv.banks .ready).isSome && s.cu.inRange) }
    pane := { s.pane with
      peek := if (findBank s.hv.banks .ready).isSome then 0 else s.pane.peek
      peekLatch := if (findBank s.hv.banks .ready).isSome then none else s.pane.peekLatch } } := by
  rw [promote_eq, promotedBanks]
  cases findBank s.hv.banks .ready with
  | none => simp
  | some i => simp [fileMotion_eq, hop]

theorem promotedBanks_of_no_ready {b : Triplet Bank} (h : ∀ j, (b.get j).state ≠ .ready) :
    findBank b .ready = none ∧ promotedBanks b = b := by
  have hnone : findBank b .ready = none := findBank_eq_none_iff.mpr h
  exact ⟨hnone, by rw [promotedBanks, hnone]⟩

theorem promotedBanks_of_ready {b t : Triplet Bank} (hb : b.Sound) {i : BankId} (hi : (b.get i).state = .ready)
    (ht : ∀ j, t.get j = if j = i then { b.get j with state := .current }
      else if (b.get j).state = .current then Bank.released else b.get j) :
    findBank b .ready = some i ∧ promotedBanks b = t := by
  have hfind := hb.findBank_eq (by decide) hi
  refine ⟨hfind, Triplet.ext_get fun j => ?_⟩
  rw [promotedBanks, hfind, ht j, get_restateBank, hb.get_releaseBank (by decide)]
  split
  · next hj => rw [if_neg (by rw [hj, hi]; decide)]
  · rfl

/-- Steps 3 to 7 of a completion in ACTIVE, field by field (R58). -/
theorem publishAndApply_of_active (hop : s.port.op = .active) : publishAndApply sr s =
    (let v := applyPress sr (publish sr s)
    trigger { v with
      hv := { s.hv with banks := promotedBanks s.hv.banks }
      se := { v.se with motion := s.se.motion
        || (((resultOf sr s).withdrawn || (findBank s.hv.banks .ready).isSome) && s.cu.inRange) }
      pane := { v.pane with
        peek := if (findBank s.hv.banks .ready).isSome then 0 else s.pane.peek
        peekLatch := if (findBank s.hv.banks .ready).isSome then none else s.pane.peekLatch } }) := by
  have hpublished : (publish sr s).se = { s.se with result := resultOf sr s, identity := identityOf sr } := rfl
  unfold publishAndApply
  dsimp only
  congr 1
  rw [promote_of_active (by split <;> simpa using hop)]
  cases hw : (resultOf sr s).withdrawn with
  | false => simp [hpublished, hw]
  | true => cases hr : s.cu.inRange <;> simp [hpublished, hw, hr, fileMotion_eq, hop]

theorem Publishes.eq_resultOf {r : Result} (h : Publishes sr s r) : r = resultOf sr s := by
  have h' := publishes_resultOf sr s
  generalize resultOf sr s = q at h'
  have hseq : r.seq = q.seq := h.seq.trans h'.seq.symm
  have hpress : r.press = q.press := Bool.eq_iff_iff.mpr (h.press.trans h'.press.symm)
  have hcursor : r.cursor = q.cursor := h.cursor.trans h'.cursor.symm
  have hstale : r.stale = q.stale := Bool.eq_iff_iff.mpr (h.stale.trans h'.stale.symm)
  have hout : r.outOfRange = q.outOfRange := Bool.eq_iff_iff.mpr (h.outOfRange.trans h'.outOfRange.symm)
  have hframe : r.bankFrame = q.bankFrame := by
    cases hb : sr.bank with
    | none => rw [h.noFrame hb, h'.noFrame hb]
    | some i => rw [h.bankFrame i hb, h'.bankFrame i hb]
  have hrest : r.kind = q.kind ∧ r.point = q.point ∧ r.d2 = q.d2 ∧ r.source = q.source ∧ r.edge = q.edge ∧ r.held = q.held
      ∧ r.gridded = q.gridded ∧ r.unconstrained = q.unconstrained ∧ r.withdrawn = q.withdrawn := by
    cases hw : objectWinner sr with
    | some w =>
      obtain ⟨hk, hp, hd, hs, he, hh, hg, hu, hwd⟩ := h.object w.1 w.2 hw
      obtain ⟨hk', hp', hd', hs', he', hh', hg', hu', hwd'⟩ := h'.object w.1 w.2 hw
      exact ⟨hk.trans hk'.symm, hp.trans hp'.symm, hd.trans hd'.symm, hs.trans hs'.symm, he.trans he'.symm,
        hh.trans hh'.symm, hg.trans hg'.symm, hu.trans hu'.symm, Bool.eq_iff_iff.mpr (hwd.trans hwd'.symm)⟩
    | none =>
      obtain ⟨p, v, hp, hpt, he, hg, hd, hs, hh, hwd, hoff, hfree, hcon⟩ := h.fallback hw
      obtain ⟨p', v', hp', hpt', he', hg', hd', hs', hh', hwd', hoff', hfree', hcon'⟩ := h'.fallback hw
      obtain rfl : p = p' := hp.trans hp'.symm
      have hsame : v = v' ∧ r.unconstrained = q.unconstrained ∧ r.kind = q.kind := by
        by_cases hidle : sr.mode = .off ∨ sr.anchor = none
        · obtain ⟨hv, hu, hk⟩ := hoff hidle
          obtain ⟨hv', hu', hk'⟩ := hoff' hidle
          exact ⟨hv.trans hv'.symm, hu.trans hu'.symm, hk.trans hk'.symm⟩
        · obtain ⟨hmode, hanchor⟩ := not_or.mp hidle
          obtain ⟨a, ha⟩ := Option.ne_none_iff_exists'.mp hanchor
          cases hc : constrainPoint sr.mode sr.dirs a p with
          | none =>
            obtain ⟨hv, hu, hk⟩ := hfree a hmode ha hc
            obtain ⟨hv', hu', hk'⟩ := hfree' a hmode ha hc
            exact ⟨hv.trans hv'.symm, hu.trans hu'.symm, hk.trans hk'.symm⟩
          | some u =>
            obtain ⟨hv, hu, hk⟩ := hcon a hmode ha u hc
            obtain ⟨hv', hu', hk'⟩ := hcon' a hmode ha u hc
            exact ⟨hv.trans hv'.symm, hu.trans hu'.symm, hk.trans hk'.symm⟩
      obtain ⟨rfl, hu, hk⟩ := hsame
      exact ⟨hk, hpt.trans hpt'.symm, hd.trans hd'.symm, hs.trans hs'.symm, he.trans he'.symm, hh.trans hh'.symm,
        hg.trans hg'.symm, hu, hwd.trans hwd'.symm⟩
  obtain ⟨hk, hp, hd, hs, he, hh, hg, hu, hwd⟩ := hrest
  cases r
  cases q
  simp only at hseq hpress hcursor hstale hout hframe hk hp hd hs he hh hg hu hwd
  subst hseq hpress hcursor hstale hout hframe hk hp hd hs he hh hg hu hwd
  rfl

theorem Identifies.eq_identityOf {h : Option HoldId} (hid : Identifies sr h) : h = identityOf sr := by
  have hid' := identifies_identityOf sr
  cases hw : objectWinner sr with
  | none => rw [hid.fallback hw, hid'.fallback hw]
  | some w => rw [hid.object w.1 w.2 hw, hid'.object w.1 w.2 hw]

/-! ### Step 8 of a completion (R58, R163) -/

theorem headHeld_of_idle (h : s.se.search = none) : headHeld s = false := by
  unfold headHeld
  split
  · rfl
  · simp [h]

/-- The search-bound kinds have the codes 13 to 22. -/
theorem code_of_searchBound {k : BitVec 8} (h : (kindOfCode k).searchBound = true) : 13 ≤ k.toNat ∧ k.toNat ≤ 22 := by
  unfold kindOfCode at h
  split at h
  case h_13 | h_14 | h_15 | h_16 | h_17 | h_18 | h_19 | h_20 | h_21 | h_22 => omega
  all_goals cases h

theorem headHeld_of_noBoundHead (h : NoBoundHead s) : headHeld s = false := by
  unfold headHeld
  split
  · rfl
  · next e rest hq =>
    have hfree : e.dirKind.searchBound = false := by
      rw [← Bool.not_eq_true]
      exact fun hbound => h e rest hq (code_of_searchBound hbound)
    rw [hfree, Bool.false_and]

/-- The engine IDLE, with R45 examined again. -/
def idled (s : State) : State := { s with
  se := { s.se with
    search := none
    startOwed := decide (s.port.op = .active) && (decide (s.se.presses ≠ []) || s.se.motion) } }

theorem oweStart_endSearch (s : State) : oweStart (endSearch s) = idled s := by
  have hdue : startDue (endSearch s) = (decide (s.port.op = .active) && (decide (s.se.presses ≠ []) || s.se.motion)) := by
    cases hp : s.se.presses <;> simp [startDue, endSearch, hp, beq_eq_decide]
  rw [oweStart, hdue]
  rfl

theorem idled_trigger (s : State) : idled (trigger s) = trigger (idled s) := by
  rw [trigger_congr (t := idled s) (s := s) rfl rfl rfl, trigger_eq s]
  rfl

/-- With no fault raised by the completion and no held head, step 8 ends the search and examines R45 again. -/
theorem finishCompletion_of_quiet {n : Nat} (h : s.flt.raised.length ≤ n) : finishCompletion false n s = idled s := by
  rw [← oweStart_endSearch]
  unfold finishCompletion
  dsimp only
  rw [if_neg Bool.false_ne_true, if_neg (Nat.not_lt.mpr (by exact h))]

theorem completeSearch_of_motion (hop : s.port.op = .active) (hmotion : sr.request = .motion) (hhead : NoBoundHead s) :
    completeSearch sr s = trigger { s with
      hv := { s.hv with banks := promotedBanks s.hv.banks }
      se := { s.se with
        search := none
        result := resultOf sr s
        identity := identityOf sr
        motion := s.se.motion || (((resultOf sr s).withdrawn || (findBank s.hv.banks .ready).isSome) && s.cu.inRange)
        startOwed := decide (s.se.presses ≠ []) || s.se.motion
          || (((resultOf sr s).withdrawn || (findBank s.hv.banks .ready).isSome) && s.cu.inRange) }
      pane := { s.pane with
        flags := s.pane.flags ||| 0x001#9
        peek := if (findBank s.hv.banks .ready).isSome then 0 else s.pane.peek
        peekLatch := if (findBank s.hv.banks .ready).isSome then none else s.pane.peekLatch } } := by
  have happlied : applyPress sr (publish sr s) = publish sr s := by rw [applyPress, hmotion]
  rw [completeSearch, headHeld_of_noBoundHead hhead, publishAndApply_of_active hop, happlied,
    finishCompletion_of_quiet (by simp)]
  rw [idled_trigger, idled]
  simp [publish, hop, setEvent, show Event.resultReady.bit = 0x001#9 from rfl, Bool.or_assoc]

/-- Settles O40. -/
theorem motionCompletes : Obligations.MotionCompletes := by
  intro s sr r h t hb hop hsr hmotion hdone hhead hr hh
  obtain rfl := hr.eq_resultOf
  obtain rfl := hh.eq_identityOf
  rw [exec_searchComplete hsr hdone, completeSearch_of_motion hop hmotion hhead]
  refine ⟨fun hnone => ?_, fun i hi ht => ?_⟩
  · obtain ⟨hfind, hbanks⟩ := promotedBanks_of_no_ready hnone
    simp [hfind, hbanks]
  · obtain ⟨hfind, hbanks⟩ := promotedBanks_of_ready (banksOk_iff.mp hb) hi ht
    simp [hfind, hbanks]

/-! ### The press actions of a mask (R100 to R104) -/

variable {mask : BitVec 4} {map : Vector (Option PressAction) 4} {r : Result} {x : Band}

/-- The Band Unit after the action of one button of a mask. -/
def bandStep (mask : BitVec 4) (map : Vector (Option PressAction) 4) (r : Result) (x : Band) (b : Fin 4) : Band :=
  if mask.getLsbD b.val then (match map[b] with
    | none => x
    | some a => bandAfter b a r x) else x

theorem bandUpTo_eq (n : Nat) : bandUpTo n mask map r x = ([0, 1, 2, 3].take n).foldl (bandStep mask map r) x := rfl

/-- A button of the mask has an action. -/
def acts (mask : BitVec 4) (map : Vector (Option PressAction) 4) (b : Fin 4) : Bool := mask.getLsbD b.val && map[b].isSome

/-- A button's COMMIT finds the trail full. -/
def failsAt (mask : BitVec 4) (map : Vector (Option PressAction) 4) (x : Band) (b : Fin 4) : Bool :=
  mask.getLsbD b.val && decide (map[b] = some .commit) && decide (32 ≤ x.trail.length)

/-- The buttons of a list whose COMMIT finds the trail full, in order. -/
def failures (mask : BitVec 4) (map : Vector (Option PressAction) 4) (r : Result) : Band → List (Fin 4) → List (Fin 4)
  | _, [] => []
  | x, b :: l => (if failsAt mask map x b then [b] else []) ++ failures mask map r (bandStep mask map r x b) l

theorem failedCommits_eq : failedCommits mask map r x = failures mask map r x [0, 1, 2, 3] := by
  have hcons : ∀ (p : Fin 4 → Bool) (b : Fin 4) (l : List (Fin 4)),
      (b :: l).filter p = (if p b then [b] else []) ++ l.filter p := by
    intro p b l
    cases hp : p b <;> simp [hp]
  rw [failedCommits, hcons, hcons, hcons, hcons]
  rfl

/-- The fault that a button raises (R104). -/
def commitFault (b : Fin 4) : Raised := ⟨.commitFailed, BitVec.ofNat 20 b.val, 0⟩

theorem pressAction_eq (b : Fin 4) (a : PressAction) (r : Result) (s : State) : pressAction b a r s = { s with
    band := bandAfter b a r s.band
    pane := { s.pane with flags := s.pane.flags ||| 0x002#9 }
    flt := { s.flt with
      raised := s.flt.raised ++ if a = .commit ∧ 32 ≤ s.band.trail.length then [commitFault b] else [] } } := by
  cases a with
  | commit =>
    by_cases hfull : 32 ≤ s.band.trail.length
    · simp [pressAction, Band.refuses, hfull, Band.act, bandAfter, Nat.not_lt.mpr hfull]
      rfl
    · simp [pressAction, Band.refuses, hfull, Band.act, bandAfter, Nat.not_le.mp hfull]
      rfl
  | anchor =>
    simp [pressAction, Band.refuses]
    rfl
  | clear =>
    simp [pressAction, Band.refuses]
    rfl

theorem pressButton_eq (s : State) (b : Fin 4) : pressButton mask r s b = { s with
    band := bandStep mask s.cu.map r s.band b
    pane := { s.pane with flags := s.pane.flags ||| if acts mask s.cu.map b then 0x002#9 else 0x000#9 }
    flt := { s.flt with
      raised := s.flt.raised ++ if failsAt mask s.cu.map s.band b then [commitFault b] else [] } } := by
  rw [pressButton, bandStep, acts, failsAt]
  cases mask.getLsbD b.val with
  | false => simp
  | true =>
    cases hmap : s.cu.map[b] with
    | none => simp
    | some a => simp [pressAction_eq]

theorem foldl_pressButton (l : List (Fin 4)) (s : State) : l.foldl (pressButton mask r) s = { s with
    band := l.foldl (bandStep mask s.cu.map r) s.band
    pane := { s.pane with flags := s.pane.flags ||| if l.any (acts mask s.cu.map) then 0x002#9 else 0x000#9 }
    flt := { s.flt with
      raised := s.flt.raised ++ (failures mask s.cu.map r s.band l).map commitFault } } := by
  induction l generalizing s with
  | nil => simp [failures]
  | cons b l ih =>
    rw [List.foldl_cons, ih, pressButton_eq]
    have hflags : ∀ p q : Bool, (s.pane.flags ||| if p then 0x002#9 else 0x000#9) ||| (if q then 0x002#9 else 0x000#9)
        = s.pane.flags ||| if (p || q) then 0x002#9 else 0x000#9 := by
      intro p q
      cases p <;> cases q <;> simp [BitVec.or_assoc]
    rw [List.any_cons, ← hflags]
    cases hfail : failsAt mask s.cu.map s.band b <;> simp [failures, hfail]

theorem pressActions_eq (s : State) : pressActions mask r s = { s with
    band := bandUpTo 4 mask s.cu.map r s.band
    pane := { s.pane with flags := s.pane.flags ||| if [0, 1, 2, 3].any (acts mask s.cu.map) then 0x002#9 else 0x000#9 }
    flt := { s.flt with raised := s.flt.raised ++ (failedCommits mask s.cu.map r s.band).map commitFault } } := by
  rw [failedCommits_eq]
  exact foldl_pressButton _ s

/-- Each action counts the commit record on by one (R103). -/
theorem bandStep_seq (x : Band) (b : Fin 4) :
    (bandStep mask map r x b).commit.seq = x.commit.seq + if acts mask map b then 1 else 0 := by
  unfold bandStep acts
  cases mask.getLsbD b.val with
  | false => simp
  | true =>
    cases map[b] with
    | none => simp
    | some a =>
      cases a with
      | commit =>
        simp only [bandAfter, if_true]
        split <;> rfl
      | anchor => rfl
      | clear => rfl

theorem bandStep_of_not_acts {b : Fin 4} (h : acts mask map b = false) : bandStep mask map r x b = x := by
  unfold bandStep
  unfold acts at h
  split
  · next hm =>
    rw [hm, Bool.true_and] at h
    have hmap : map[b] = none := by simpa using h
    rw [hmap]
  · rfl

theorem foldl_bandStep_seq (l : List (Fin 4)) (x : Band) :
    (l.foldl (bandStep mask map r) x).commit.seq = x.commit.seq + BitVec.ofNat 16 (l.countP (acts mask map)) := by
  induction l generalizing x with
  | nil => simp
  | cons b l ih =>
    rw [List.foldl_cons, ih, bandStep_seq, List.countP_cons]
    cases acts mask map b with
    | false => simp
    | true => simp [BitVec.ofNat_add, BitVec.add_assoc, BitVec.add_comm]

/-- The Band Unit moves exactly when a button of the mask acts. -/
theorem bandUpTo_eq_self_iff : bandUpTo 4 mask map r x = x ↔ [0, 1, 2, 3].any (acts mask map) = false := by
  constructor
  · intro h
    have hseq := foldl_bandStep_seq (mask := mask) (map := map) (r := r) [0, 1, 2, 3] x
    have hbound := List.countP_le_length (p := acts mask map) (l := [0, 1, 2, 3])
    rw [show [0, 1, 2, 3].foldl (bandStep mask map r) x = x from h] at hseq
    have hzero : [0, 1, 2, 3].countP (acts mask map) = 0 := by
      generalize [0, 1, 2, 3].countP (acts mask map) = n at hseq hbound
      simp only [List.length_cons, List.length_nil] at hbound
      bv_omega
    simpa using List.countP_eq_zero.mp hzero
  · intro h
    have hnone : ∀ b, acts mask map b = false := by simpa [Fin.forall_fin_succ] using h
    simp [bandUpTo_eq, bandStep_of_not_acts (hnone _)]

/-- Each button commits at most one vertex. -/
theorem bandStep_trail (x : Band) (b : Fin 4) : (bandStep mask map r x b).trail.length ≤ x.trail.length + 1 := by
  unfold bandStep
  split
  · split
    · exact Nat.le_succ _
    · next a _ =>
      cases a with
      | commit =>
        unfold bandAfter
        dsimp only
        split <;> simp
      | anchor => exact Nat.le_succ _
      | clear => exact Nat.zero_le _
  · exact Nat.le_succ _

theorem failures_of_room (l : List (Fin 4)) (h : x.trail.length + l.length ≤ 32) : failures mask map r x l = [] := by
  induction l generalizing x with
  | nil => rfl
  | cons b l ih =>
    rw [List.length_cons] at h
    have hroom : ¬ 32 ≤ x.trail.length := by omega
    have hstep := bandStep_trail (mask := mask) (map := map) (r := r) x b
    rw [failures, ih (by omega)]
    simp [failsAt, hroom]

/-! ### The taking of faults with the engine IDLE (R178 to R180) -/

/-- What a stop with no held head leaves of the blocks that it does not clear. -/
structure Undisturbed (s t : State) : Prop where
  band : t.band = s.band
  result : t.se.result = s.se.result
  identity : t.se.identity = s.se.identity
  search : t.se.search = none
  cu : t.cu = s.cu
  channels : t.pat.a = s.pat.a ∧ t.pat.b = s.pat.b
  dir : t.dir = s.dir
  bus : t.bus = s.bus
  pending : t.pending = s.pending

theorem Undisturbed.trans {u : State} (h : Undisturbed s t) (h' : Undisturbed t u) : Undisturbed s u :=
  ⟨h'.band.trans h.band, h'.result.trans h.result, h'.identity.trans h.identity, h'.search, h'.cu.trans h.cu,
    ⟨h'.channels.1.trans h.channels.1, h'.channels.2.trans h.channels.2⟩, h'.dir.trans h.dir, h'.bus.trans h.bus,
    h'.pending.trans h.pending⟩

theorem stopPart_of_idle (h : s.se.search = none) : stopPart s = enterBypass s :=
  if_neg (by rw [headHeld_of_idle h]; exact Bool.false_ne_true)

/-- The state with its oldest raised fault recorded (R178). -/
def recorded (f : Raised) (rest : List Raised) (s : State) : State := { s with
  flt := { s.flt with
    raised := rest
    seq := s.flt.seq + 1
    last := some ⟨f.code, f.detail, f.tag, s.trk.frames.extractLsb' 0 16, s.flt.seq + 1⟩
    latch := s.flt.latch ||| BitVec.twoPow 14 f.code.latchIndex }
  pane := { s.pane with flags := s.pane.flags ||| 0x010#9 } }

theorem recordFault_eq (f : Raised) (rest : List Raised) (s : State) :
    recordFault f { s with flt := { s.flt with raised := rest } } = recorded f rest s := by
  have hframe : s.trk.frames.setWidth 16 = s.trk.frames.extractLsb' 0 16 := BitVec.eq_of_toNat_eq (by simp)
  rw [recordFault, recorded]
  dsimp only
  rw [hframe]
  rfl

/-- A fault whose class continues, or that is taken outside ACTIVE, is recorded and nothing more. -/
theorem takeFault_of_continue {f : Raised} {rest : List Raised} (hraised : s.flt.raised = f :: rest)
    (hcont : s.flt.responses.stops f.code = false ∨ s.port.op ≠ .active) : takeFault s = recorded f rest s := by
  rw [← recordFault_eq, takeFault, hraised]
  refine if_neg fun hstop => ?_
  obtain hcont | hop := hcont
  · exact Bool.false_ne_true (hcont.symm.trans hstop.1)
  · exact hop hstop.2

theorem takeFault_of_stop {f : Raised} {rest : List Raised} (hraised : s.flt.raised = f :: rest)
    (hstop : s.flt.responses.stops f.code = true) (hop : s.port.op = .active) :
    takeFault s = stopPart (recorded f rest s) := by
  rw [← recordFault_eq, takeFault, hraised]
  exact if_pos ⟨hstop, hop⟩

theorem takeFault_undisturbed (h : s.se.search = none) : Undisturbed s (takeFault s) := by
  obtain ⟨-, heq⟩ | ⟨f, rest, u, -, hu, ⟨-, -, heq⟩ | ⟨-, heq⟩⟩ := takeFault_cases s
  · exact heq.symm ▸ ⟨rfl, rfl, rfl, h, rfl, ⟨rfl, rfl⟩, rfl, rfl, rfl⟩
  · rw [heq, hu, recordFault_eq, stopPart_of_idle (by exact h)]
    exact ⟨rfl, rfl, rfl, rfl, rfl, ⟨rfl, rfl⟩, rfl, rfl, rfl⟩
  · rw [heq, hu, recordFault_eq]
    exact ⟨rfl, rfl, rfl, h, rfl, ⟨rfl, rfl⟩, rfl, rfl, rfl⟩

theorem takeFaults_undisturbed (n : Nat) (h : s.se.search = none) : Undisturbed s (takeFaults n s) := by
  induction n generalizing s with
  | zero => exact ⟨rfl, rfl, rfl, h, rfl, ⟨rfl, rfl⟩, rfl, rfl, rfl⟩
  | succ n ih =>
    have hfirst := takeFault_undisturbed h
    exact hfirst.trans (ih hfirst.search)

theorem seq_succ (q : BitVec 16) (n : Nat) : q + 1 + BitVec.ofNat 16 n = q + BitVec.ofNat 16 (n + 1) := by
  rw [BitVec.add_assoc, Nat.add_comm n 1, BitVec.ofNat_add]
  rfl

/-- The state with COMMIT FAILED recorded for each button of a list, `b` being the last. -/
def allRecorded (l : List (Fin 4)) (b : Fin 4) (s : State) : State := { s with
  flt := { s.flt with
    raised := []
    seq := s.flt.seq + BitVec.ofNat 16 (l ++ [b]).length
    last := some ⟨.commitFailed, BitVec.ofNat 20 b.val, 0, s.trk.frames.extractLsb' 0 16,
      s.flt.seq + BitVec.ofNat 16 (l ++ [b]).length⟩
    latch := s.flt.latch ||| 0x800#14 }
  pane := { s.pane with flags := s.pane.flags ||| 0x010#9 } }

/-- COMMIT FAILED of each button of a list, taken one after the other with the part not stopping. -/
theorem takeFaults_of_continue {l : List (Fin 4)} {b : Fin 4} (hraised : s.flt.raised = (l ++ [b]).map commitFault)
    (hcont : s.flt.responses.input = false ∨ s.port.op ≠ .active) :
    takeFaults (l ++ [b]).length s = allRecorded l b s := by
  induction l generalizing s with
  | nil => exact takeFault_of_continue hraised hcont
  | cons c l ih =>
    have hfirst : takeFaults (c :: l ++ [b]).length s = takeFaults (l ++ [b]).length (takeFault s) := rfl
    have hseq : s.flt.seq + 1 + BitVec.ofNat 16 (l ++ [b]).length = s.flt.seq + BitVec.ofNat 16 (c :: l ++ [b]).length :=
      seq_succ _ _
    have htake : takeFault s = recorded (commitFault c) ((l ++ [b]).map commitFault) s :=
      takeFault_of_continue hraised hcont
    have hrecorded := ih (s := recorded (commitFault c) ((l ++ [b]).map commitFault) s) rfl hcont
    rw [hfirst, htake, hrecorded]
    have hbit : BitVec.twoPow 14 (commitFault c).code.latchIndex = 0x800#14 := rfl
    simp only [allRecorded, recorded, hseq, hbit, BitVec.or_assoc, BitVec.or_self]

/-! ### FAULT_TAKEN (R178 to R180) -/

/-- A stop, field by field (R180). -/
def stopped (s : State) : State := { s with
  flt := { s.flt with stopCause := s.flt.last }
  pane := { s.pane with flags := s.pane.flags ||| 0x020#9 }
  port := { s.port with op := .bypass }
  trk := { s.trk with state := .halted, record := none, calls := [], frameOpen := false, inWindow := false }
  se := { s.se with presses := [], motion := false, search := none, startOwed := false }
  hv := ⟨[], ⟨Bank.released, Bank.released, Bank.released⟩, none⟩
  comp := ⟨none, false, Composed.emptyList, Composed.emptyList, false, s.comp.style⟩
  pat := { s.pat with frozen := false } }

theorem enterBypass_eq (s : State) : enterBypass s = stopped s := rfl

/-- The response to the class of a code (R179). -/
theorem stops_iff (q : Responses) (c : FaultCode) : q.stops c = true ↔
    (c.classNumber = 1 ∧ q.traversal = true) ∨ (c.classNumber = 2 ∧ q.harvest = true)
    ∨ (c.classNumber = 3 ∧ q.directive = true) ∨ (c.classNumber = 4 ∧ q.input = true)
    ∨ (c.classNumber = 5 ∧ q.window = true) := by
  cases c <;> simp [Responses.stops, FaultCode.classNumber]

/-- Settles O46. -/
theorem faultTaken : Obligations.FaultTaken := by
  intro s u f rest stop hraised hstop hu
  obtain rfl : u = recorded f rest s := hu
  have hstops : s.flt.responses.stops f.code = stop := Bool.eq_iff_iff.mpr ((stops_iff _ _).trans hstop.symm)
  refine ⟨fun hcont => congrArg Host.Outcome.next (takeFault_of_continue hraised (hstops ▸ hcont)),
    fun hs hop hfree => congrArg Host.Outcome.next ?_⟩
  have hhead : headHeld (recorded f rest s) = false := hfree.elim (fun h => headHeld_of_idle h)
    fun h => headHeld_of_noBoundHead (s := recorded f rest s) h
  rw [takeFault_of_stop hraised (hstops.trans hs) hop, stopPart, hhead, if_neg Bool.false_ne_true, enterBypass_eq]
  simp [stopped, recorded, BitVec.or_assoc]

/-! ### The completion of a PRESS (R100 to R104) -/

/-- Steps 3 to 6 of the completion of a PRESS in ACTIVE, field by field (R58). -/
def pressDone (p : Press) (sr : Search) (s : State) : State := { s with
  hv := { s.hv with banks := promotedBanks s.hv.banks }
  se := { s.se with
    result := resultOf sr s
    identity := identityOf sr
    motion := s.se.motion || (((resultOf sr s).withdrawn || (findBank s.hv.banks .ready).isSome) && s.cu.inRange) }
  band := bandUpTo 4 p.mask s.cu.map (resultOf sr s) s.band
  pane := { s.pane with
    flags := s.pane.flags
      ||| if bandUpTo 4 p.mask s.cu.map (resultOf sr s) s.band = s.band then 0x001#9 else 0x003#9
    peek := if (findBank s.hv.banks .ready).isSome then 0 else s.pane.peek
    peekLatch := if (findBank s.hv.banks .ready).isSome then none else s.pane.peekLatch }
  flt := { s.flt with
    raised := s.flt.raised ++ (failedCommits p.mask s.cu.map (resultOf sr s) s.band).map commitFault } }

theorem publishAndApply_of_press {p : Press} (hop : s.port.op = .active) (hpress : sr.request = .press p) :
    publishAndApply sr s = trigger (pressDone p sr s) := by
  have happlied : applyPress sr (publish sr s) = pressActions p.mask (resultOf sr s) (publish sr s) := by
    rw [applyPress, hpress]
    rfl
  have hflags : (s.pane.flags ||| 0x001#9 ||| if [0, 1, 2, 3].any (acts p.mask s.cu.map) then 0x002#9 else 0x000#9)
      = s.pane.flags ||| if bandUpTo 4 p.mask s.cu.map (resultOf sr s) s.band = s.band then 0x001#9 else 0x003#9 := by
    rw [BitVec.or_assoc]
    cases hacts : [0, 1, 2, 3].any (acts p.mask s.cu.map) with
    | false => rw [if_pos (bandUpTo_eq_self_iff.mpr hacts), if_neg Bool.false_ne_true, BitVec.or_zero]
    | true =>
      rw [if_neg fun h => Bool.false_ne_true ((bandUpTo_eq_self_iff.mp h).symm.trans hacts)]
      rfl
  rw [publishAndApply_of_active hop, happlied, pressActions_eq, pressDone, ← hflags]
  rfl

theorem failedCommits_of_room (h : x.trail.length ≤ 28) : failedCommits mask map r x = [] := by
  rw [failedCommits_eq]
  exact failures_of_room _ (by simp; omega)

theorem completeSearch_of_press {p : Press} (hop : s.port.op = .active) (hpress : sr.request = .press p)
    (hhead : NoBoundHead s) : completeSearch sr s = finishCompletion false s.flt.raised.length (trigger (pressDone p sr s)) := by
  rw [completeSearch, headHeld_of_noBoundHead hhead, publishAndApply_of_press hop hpress]

theorem finishCompletion_of_faults {n : Nat} (h : n < s.flt.raised.length) :
    finishCompletion false n s = oweStart (takeFaults s.flt.raised.length (endSearch s)) := by
  unfold finishCompletion
  dsimp only
  rw [if_neg Bool.false_ne_true, if_pos (by exact h)]
  rfl

theorem finishCompletion_undisturbed (n : Nat) : Undisturbed (endSearch s) (finishCompletion false n s) := by
  obtain hquiet | hfaults := Nat.lt_or_ge n s.flt.raised.length
  · have h := takeFaults_undisturbed s.flt.raised.length (s := endSearch s) rfl
    rw [finishCompletion_of_faults hquiet]
    exact ⟨h.band, h.result, h.identity, h.search, h.cu, h.channels, h.dir, h.bus, h.pending⟩
  · rw [finishCompletion_of_quiet hfaults]
    exact ⟨rfl, rfl, rfl, rfl, rfl, ⟨rfl, rfl⟩, rfl, rfl, rfl⟩

/-- Faults that do not stop the part leave the trigger of a completion. -/
theorem oweStart_allRecorded (l : List (Fin 4)) (b : Fin 4) :
    oweStart (allRecorded l b (endSearch (trigger s))) = trigger (allRecorded l b (idled s)) := by
  rw [trigger_congr (t := allRecorded l b (idled s)) (s := s) rfl rfl rfl,
    show oweStart (allRecorded l b (endSearch (trigger s))) = allRecorded l b (oweStart (endSearch (trigger s))) from rfl,
    oweStart_endSearch, trigger_eq]
  rfl

/-- With INPUT set to STOP the first COMMIT FAILED stops the part, and the others are recorded in BYPASS. -/
theorem takeFaults_of_stop {b : Fin 4} {rest : List (Fin 4)} (hidle : s.se.search = none)
    (hraised : s.flt.raised = (b :: rest).map commitFault) (hstop : s.flt.responses.input = true)
    (hop : s.port.op = .active) : takeFaults (b :: rest).length s =
      takeFaults rest.length (stopped (recorded (commitFault b) (rest.map commitFault) s)) := by
  have hfirst : takeFault s = stopped (recorded (commitFault b) (rest.map commitFault) s) := by
    rw [takeFault_of_stop hraised hstop hop, stopPart_of_idle (by exact hidle), enterBypass_eq]
  rw [← hfirst]
  rfl

/-- Settles O41. -/
theorem pressApplied : Obligations.PressApplied := by
  intro s sr p r h x failed hop hsr hpress hdone hhead hr hh hx hfailed
  obtain rfl := hr.eq_resultOf
  obtain rfl := hh.eq_identityOf
  have hexec := exec_searchComplete hsr hdone
  rw [completeSearch_of_press hop hpress hhead] at hexec
  have hraised : (trigger (pressDone p sr s)).flt.raised = s.flt.raised ++ failed.map commitFault := by
    rw [hfailed, trigger_eq]
    rfl
  have hquiet : failed = [] → finishCompletion false s.flt.raised.length (trigger (pressDone p sr s)) =
      trigger (idled (pressDone p sr s)) := fun hnone => by
    rw [finishCompletion_of_quiet (by rw [hraised, hnone]; simp), idled_trigger]
  have hfaults : ∀ b rest, failed = b :: rest → finishCompletion false s.flt.raised.length (trigger (pressDone p sr s)) =
      oweStart (takeFaults (s.flt.raised ++ failed.map commitFault).length (endSearch (trigger (pressDone p sr s)))) :=
    fun b rest hf => by rw [finishCompletion_of_faults (by rw [hraised, hf]; simp), hraised]
  rw [hexec]
  refine ⟨⟨_, rfl, ?_⟩, fun hroom => hfailed.trans (failedCommits_of_room hroom), fun banks up flt hb hnone hready hflt hlast => ?_,
    fun b rest hf hidle hstop => ⟨_, rfl, ?_⟩⟩
  · obtain ⟨hband, hresult, hidentity, hsearch, hcu, ⟨ha, hb⟩, hdir, hbus, hpending⟩ :=
      finishCompletion_undisturbed (s := trigger (pressDone p sr s)) s.flt.raised.length
    rw [hband, hresult, hidentity, hsearch, hcu, ha, hb, hdir, hbus, hpending, trigger_eq]
    exact ⟨hx.symm, rfl, rfl, rfl, rfl, rfl, rfl, rfl, rfl, rfl⟩
  · have hbanks : promotedBanks s.hv.banks = banks ∧ (findBank s.hv.banks .ready).isSome = up := by
      by_cases hsome : ∃ i, (s.hv.banks.get i).state = .ready
      · obtain ⟨i, hi⟩ := hsome
        obtain ⟨rfl, ht⟩ := hready i hi
        obtain ⟨hfind, hbanks⟩ := promotedBanks_of_ready (banksOk_iff.mp hb) hi ht
        exact ⟨hbanks, by rw [hfind]; rfl⟩
      · obtain ⟨rfl, rfl⟩ := hnone (not_exists.mp hsome)
        obtain ⟨hfind, hbanks⟩ := promotedBanks_of_no_ready (not_exists.mp hsome)
        exact ⟨hbanks, by rw [hfind]; rfl⟩
    obtain ⟨rfl, rfl⟩ := hbanks
    obtain hnil | ⟨l, b, hl⟩ := List.eq_nil_or_concat' failed
    · rw [hquiet hnil, hflt hnil]
      refine congrArg (Host.Outcome.next ∘ trigger) ?_
      simp [idled, pressDone, hnil, ← hx, ← hfailed, hop, Bool.or_assoc]
    · obtain ⟨hnothing, hcont, hrecorded⟩ := hlast l b hl
      have hne : failed ≠ [] := by simp [hl]
      obtain ⟨c, rest, hcons⟩ := List.exists_cons_of_ne_nil hne
      have htaken := takeFaults_of_continue (s := endSearch (trigger (pressDone p sr s))) (l := l) (b := b)
        (by rw [← hl]; exact hraised.trans (by rw [hnothing, List.nil_append])) (.inl (by simpa [pressDone] using hcont))
      rw [hfaults c rest hcons, hnothing, List.nil_append, List.length_map, hl, htaken, oweStart_allRecorded, hrecorded]
      refine congrArg (Host.Outcome.next ∘ trigger) ?_
      simp [allRecorded, idled, pressDone, ← hx, ← hfailed, hop, Bool.or_assoc, hl, hnothing]
  · have htaken := takeFaults_of_stop (s := endSearch (trigger (pressDone p sr s))) (b := b) (rest := rest) rfl
      (by rw [← hf]; exact hraised.trans (by rw [hidle, List.nil_append])) (by simpa [pressDone] using hstop)
      (by simpa [pressDone] using hop)
    rw [hfaults b rest hf, hidle, List.nil_append, List.length_map, hf, htaken]
    have hstyle : (trigger (pressDone p sr s)).comp.style = s.comp.style := by simp [pressDone]
    have hcomp : ∀ u : State, u.comp.style = s.comp.style → (stopped u).comp =
        ⟨none, false, Composed.emptyList, Composed.emptyList, false, s.comp.style⟩ := fun u hu => by rw [← hu]; rfl
    obtain rfl | ⟨l, c, rfl⟩ := List.eq_nil_or_concat' rest
    · rw [trigger_eq]
      refine ⟨rfl, rfl, fun l c hl => ?_, rfl, rfl, rfl, rfl, rfl, rfl, ?_, hcomp _ hstyle⟩
      · obtain rfl : b = c := by simpa using (congrArg List.getLast? hl)
        rfl
      · rfl
    · rw [takeFaults_of_continue rfl (.inr (by simp [stopped])), trigger_eq]
      refine ⟨rfl, ?_, fun k d hl => ?_, ?_, rfl, rfl, rfl, rfl, rfl, ?_, hcomp _ hstyle⟩
      · exact seq_succ s.flt.seq (l ++ [c]).length
      · obtain rfl : c = d := by
          have hlast : (b :: (l ++ [c])).getLast? = some d := by rw [hl, List.getLast?_concat]
          rw [← List.cons_append, List.getLast?_concat] at hlast
          exact Option.some.inj hlast
        exact congrArg (fun q => some (⟨.commitFailed, BitVec.ofNat 20 c.val, 0, s.trk.frames.extractLsb' 0 16, q⟩ : FaultRecord))
          (seq_succ s.flt.seq (l ++ [c]).length)
      · show s.flt.latch ||| 0x800#14 ||| 0x800#14 = s.flt.latch ||| 0x800#14
        rw [BitVec.or_assoc, BitVec.or_self]
      · rfl

end Sys2Proof.Machine

/-! PROOFS. The release of a HELD head by a completion and by a stop (section 10.3). -/

namespace Sys2Proof.Machine

variable {s t u : State} {sr : Search} {e : DirEntry} {q rest : List DirEntry}

/-! ### Everything but the execution of directives leaves the queue alone -/

/-- The state with another queue of directives. -/
def queued (q : List DirEntry) (s : State) : State := { s with dir := { s.dir with queue := q } }

theorem queued_of_queue (h : s.dir.queue = q) : queued q s = s := by rw [queued, ← h]

theorem trigger_queued (q : List DirEntry) (s : State) : trigger (queued q s) = queued q (trigger s) := by
  rw [trigger_congr (t := queued q s) (s := s) rfl rfl rfl, trigger_eq s]
  rfl

theorem applyPress_queued (q : List DirEntry) (sr : Search) (s : State) :
    applyPress sr (publish sr (queued q s)) = queued q (applyPress sr (publish sr s)) := by
  cases hr : sr.request with
  | motion =>
    simp only [applyPress, hr]
    rfl
  | press p =>
    simp only [applyPress, hr, pressActions_eq]
    rfl

theorem publishAndApply_queued (hop : s.port.op = .active) :
    publishAndApply sr (queued q s) = queued q (publishAndApply sr s) := by
  rw [publishAndApply_of_active hop, publishAndApply_of_active (s := queued q s) hop, applyPress_queued]
  dsimp only
  rw [← trigger_queued]
  rfl

theorem takeFault_queued (h : s.se.search = none) : takeFault (queued q s) = queued q (takeFault s) := by
  cases hr : s.flt.raised with
  | nil =>
    have hnone : ∀ v : State, v.flt.raised = [] → takeFault v = v := fun v hv => by rw [takeFault, hv]
    rw [hnone s hr, hnone (queued q s) hr]
  | cons f l =>
    by_cases hstop : s.flt.responses.stops f.code = true ∧ s.port.op = .active
    · obtain ⟨hstops, hop⟩ := hstop
      rw [takeFault_of_stop hr hstops hop, takeFault_of_stop (s := queued q s) hr hstops hop,
        stopPart_of_idle (by exact h), stopPart_of_idle (by exact h)]
      rfl
    · have hcont : s.flt.responses.stops f.code = false ∨ s.port.op ≠ .active :=
        (not_and_or.mp hstop).imp_left Bool.eq_false_iff.mpr
      rw [takeFault_of_continue hr hcont, takeFault_of_continue (s := queued q s) hr hcont]
      rfl

theorem takeFaults_queued (n : Nat) (h : s.se.search = none) : takeFaults n (queued q s) = queued q (takeFaults n s) := by
  induction n generalizing s with
  | zero => rfl
  | succ n ih =>
    rw [takeFaults, takeFaults, takeFault_queued h]
    exact ih (takeFault_undisturbed h).search

theorem takeFault_observes (h : s.se.search = none) (ho : Observes s) : Observes (takeFault s) := by
  obtain ⟨-, heq⟩ | ⟨f, l, v, -, rfl, ⟨-, -, heq⟩ | ⟨-, heq⟩⟩ := takeFault_cases s
  · rwa [heq]
  · rw [heq, stopPart_of_idle (by exact h)]
    exact .inr (.inr rfl)
  · rwa [heq]

theorem takeFaults_observes (n : Nat) (h : s.se.search = none) (ho : Observes s) : Observes (takeFaults n s) := by
  induction n generalizing s with
  | zero => exact ho
  | succ n ih => exact ih (takeFault_undisturbed h).search (takeFault_observes h ho)

/-! ### Step 8 of a completion up to the release of the head (R58) -/

/-- The engine IDLE and the faults of the completion taken. -/
def settled (before : Nat) (s : State) : State :=
  if before < s.flt.raised.length then takeFaults s.flt.raised.length (endSearch s) else endSearch s

theorem finishCompletion_eq (held : Bool) (before : Nat) (s : State) : finishCompletion held before s =
    oweStart (if held then executeHead (settled before s) else settled before s) := rfl

theorem settled_search (before : Nat) (s : State) : (settled before s).se.search = none := by
  unfold settled
  split
  · exact (takeFaults_undisturbed _ rfl).search
  · rfl

theorem settled_queue (before : Nat) (s : State) : (settled before s).dir = s.dir := by
  unfold settled
  split
  · exact (takeFaults_undisturbed _ rfl).dir
  · rfl

theorem settled_observes {before : Nat} (ho : Observes s) : Observes (settled before s) := by
  unfold settled
  split
  · exact takeFaults_observes _ rfl ho
  · exact ho

theorem settled_queued (before : Nat) (s : State) : settled before (queued q s) = queued q (settled before s) := by
  unfold settled
  by_cases h : before < s.flt.raised.length
  · rw [if_pos h, if_pos (by exact h)]
    exact takeFaults_queued (s := endSearch s) _ rfl
  · rw [if_neg h, if_neg (by exact h)]
    rfl

/-! ### A search-bound directive and the start owed -/

/-- The state with the owed start set. -/
def owing (b : Bool) (s : State) : State := { s with se := { s.se with startOwed := b } }

theorem trigger_owing (b : Bool) (s : State) : trigger (owing b s) = owing b (trigger s) := by
  rw [trigger_congr (t := owing b s) (s := s) rfl rfl rfl, trigger_eq s]
  rfl

/-- The new band of an anchor or trail directive, with the trigger. -/
theorem bandEffect_owing (b : Bool) (x : Band) (r : Option Reason) (s : State) :
    (trigger (setBandUnit x (owing b s)), r) = (owing b (trigger (setBandUnit x s)), r) :=
  Prod.ext (trigger_owing b (setBandUnit x s)) rfl

/-- A search-bound directive neither reads nor changes the owed start. -/
theorem effectOf_owing {k : DirKind} (hk : k.searchBound = true) (b : Bool) (e : DirEntry) (s : State) :
    effectOf k e (owing b s) = (owing b (effectOf k e s).1, (effectOf k e s).2) := by
  cases k
  case setSnap | setGrid | setConstraint => rfl
  case loadDirections =>
    simp only [effectOf, applyLoadDirections]
    split <;> rfl
  case continueDirections =>
    simp only [effectOf, applyContinueDirections, show (owing b s).dir = s.dir from rfl]
    cases s.dir.continuation with
    | none => rfl
    | some k =>
      dsimp only
      split <;> rfl
  case setAnchor | clearAnchor | trailClear => exact bandEffect_owing b _ none s
  case trailAppend =>
    simp only [effectOf, applyTrailAppend, show (owing b s).band = s.band from rfl]
    split
    · exact bandEffect_owing b _ none s
    · rfl
  case trailDrop =>
    simp only [effectOf, applyTrailDrop, show (owing b s).band = s.band from rfl]
    split
    · rfl
    · exact bandEffect_owing b _ none s
  all_goals cases hk

theorem outcome_owing (b : Bool) (e : DirEntry) (r : Option Reason) (s : State) :
    leaveQueue (noteRefusal e r (reportOutcome e r (owing b s))) = owing b (leaveQueue (noteRefusal e r (reportOutcome e r s))) := by
  have hleave : ∀ v, leaveQueue (owing b v) = owing b (leaveQueue v) := fun v => by
    by_cases h : v.dir.queue.tail.isEmpty = true
    · exact (if_pos h : leaveQueue (owing b v) = _).trans (congrArg (owing b) (if_pos h : leaveQueue v = _).symm)
    · exact (if_neg h : leaveQueue (owing b v) = _).trans (congrArg (owing b) (if_neg h : leaveQueue v = _).symm)
  rw [← hleave]
  cases r <;> rfl

/-- A search-bound directive leaves what the owed start is examined on. -/
theorem startDue_executeEntry {k : DirKind} (hk : k.searchBound = true) (e : DirEntry) (s : State) :
    startDue (executeEntry (effectOf k) e s) = startDue s := by
  have heffect : startDue (effectOf k e s).1 = startDue s := by
    cases k
    case setSnap | setGrid | setConstraint | loadDirections | continueDirections | setAnchor | clearAnchor | trailAppend
        | trailDrop | trailClear => simp [effectOf, startDue]
    all_goals cases hk
  rw [← heffect]
  simp [executeEntry, startDue]

theorem executeEntry_oweStart {k : DirKind} (hk : k.searchBound = true) (e : DirEntry) (s : State) :
    executeEntry (effectOf k) e (oweStart s) = oweStart (executeEntry (effectOf k) e s) := by
  have howing : ∀ b, executeEntry (effectOf k) e (owing b s) = owing b (executeEntry (effectOf k) e s) := fun b => by
    rw [executeEntry, effectOf_owing hk, outcome_owing]
    rfl
  rw [show oweStart s = owing (startDue s) s from rfl, howing, ← startDue_executeEntry hk e s]
  rfl

/-! ### The ten rows (R163, R164) -/

theorem searchBound_rows {row : Nat × Instr} (h : row ∈ [(13, Instr.setSnap), (14, .setGrid), (15, .loadDirections),
    (16, .continueDirections), (17, .setConstraint), (18, .setAnchor), (19, .clearAnchor), (20, .trailAppend),
    (21, .trailDrop), (22, .trailClear)]) (he : e.kind.toNat = row.1) :
    rowKind row.2 = some e.dirKind ∧ e.dirKind.searchBound = true := by
  simp only [List.mem_cons, List.not_mem_nil, or_false] at h
  unfold DirEntry.dirKind kindOfCode
  obtain rfl | rfl | rfl | rfl | rfl | rfl | rfl | rfl | rfl | rfl := h <;> (rw [he]; exact ⟨rfl, rfl⟩)

/-- A search-bound head runs its row with the engine IDLE. -/
theorem exec_head_of_idle {c : Instr} (hc : rowKind c = some e.dirKind) (hq : s.dir.queue = e :: rest) (ho : Observes s)
    (hidle : s.se.search = none) : exec c s = .next (executeEntry (effectOf e.dirKind) e s) := by
  have hat : AtHead e.kind e rest s := ⟨hq, rfl, ho⟩
  rw [exec_of_rowKind hc, show e.dirKind = kindOfCode e.kind from rfl, hat.runDirective_eq (.inr hidle)]

/-- A search-bound head waits for the search. -/
theorem exec_head_of_search {c : Instr} (hc : rowKind c = some e.dirKind) (hq : s.dir.queue = e :: rest)
    (hb : e.dirKind.searchBound = true) (hsearch : s.se.search.isSome = true) : exec c s = .next s := by
  have hwaits : mayExecute e s = false := by
    rw [mayExecute, hb, Option.isNone_eq_false_iff.mpr hsearch]
    simp
  rw [exec_of_rowKind hc, runDirective, hq]
  exact congrArg Host.Outcome.next (if_neg fun h => Bool.false_ne_true (hwaits.symm.trans h.2))

/-- A completion with the head released executes it on what the completion leaves. -/
theorem completeSearch_of_held (hheld : headHeld s = true) : completeSearch sr s =
    oweStart (executeHead (settled s.flt.raised.length (publishAndApply sr s))) := by
  rw [completeSearch, hheld, finishCompletion_eq, if_pos rfl]

theorem completeSearch_of_empty (hop : s.port.op = .active) : completeSearch sr (queued [] s) =
    queued [] (oweStart (settled s.flt.raised.length (publishAndApply sr s))) := by
  have hhead : headHeld (queued [] s) = false := rfl
  rw [completeSearch, hhead, publishAndApply_queued hop, finishCompletion_eq, if_neg Bool.false_ne_true, settled_queued]
  rfl

/-- The head that a completion releases runs as its row would on what the completion leaves (log 19). -/
theorem exec_head_of_completion {c : Instr} (hc : rowKind c = some e.dirKind) (hb : e.dirKind.searchBound = true)
    (hq : s.dir.queue = e :: rest) (ho : Observes s) (hidle : s.se.search = none) :
    exec c (queued (e :: rest) (queued [] (oweStart s))) = .next (oweStart (executeHead s)) := by
  have hself : queued (e :: rest) (queued [] (oweStart s)) = oweStart s := queued_of_queue (s := oweStart s) hq
  rw [hself, exec_head_of_idle (s := oweStart s) hc hq ho hidle, executeEntry_oweStart hb, executeHead, hq]

/-- Settles O42. -/
theorem heldHead : Obligations.HeldHead := by
  intro row s e rest hrow hop hsearch hq he
  obtain ⟨hkind, hbound⟩ := searchBound_rows hrow he
  obtain ⟨sr, hsr⟩ := Option.isSome_iff_exists.mp hsearch
  have hheld : headHeld s = true := by
    unfold headHeld
    rw [hq]
    exact Bool.and_eq_true_iff.mpr ⟨hbound, hsearch⟩
  refine ⟨exec_head_of_search hkind hq hbound hsearch, fun u hu hidle => ?_, fun u hu hbypass => ?_⟩
  · have hexec : ∀ v : State, v.se.search = some sr →
        exec .searchComplete v = .next (if searchDone sr v then completeSearch sr v else v) := fun v hv => by
      rw [show exec .searchComplete v = execSearchComplete v from rfl, execSearchComplete, hv]
    have hu' : (if searchDone sr s then completeSearch sr (queued [] s) else queued [] s) = u :=
      Host.Outcome.next.inj ((hexec (queued [] s) hsr).symm.trans hu)
    by_cases hdone : searchDone sr s = true
    · rw [if_pos hdone] at hu'
      have hw : (settled s.flt.raised.length (publishAndApply sr s)).dir.queue = e :: rest := by
        rw [settled_queue, ← hq]
        simp
      have hobserves : Observes (publishAndApply sr s) := .inr (.inl (by simpa using hop))
      change _ = exec row.2 (queued (e :: rest) u)
      rw [hexec s hsr, if_pos hdone, completeSearch_of_held hheld, ← hu', completeSearch_of_empty hop,
        exec_head_of_completion hkind hbound hw (settled_observes hobserves) (settled_search _ _)]
    · rw [if_neg hdone] at hu'
      rw [← hu'] at hidle
      exact nomatch hsr.symm.trans hidle
  · have hu' : takeFault (queued [] s) = u := Host.Outcome.next.inj hu
    cases hr : s.flt.raised with
    | nil =>
      have hnone : takeFault (queued [] s) = queued [] s := by
        rw [takeFault, show (queued [] s).flt.raised = [] from hr]
      rw [← hu', hnone, show (queued [] s).port.op = .active from hop] at hbypass
      exact nomatch hbypass
    | cons f l =>
      cases hstops : s.flt.responses.stops f.code with
      | false =>
        rw [← hu', takeFault_of_continue (s := queued [] s) hr (.inl hstops), show (recorded f l (queued [] s)).port.op = .active
          from hop] at hbypass
        exact nomatch hbypass
      | true =>
        have hfree : headHeld (recorded f l (queued [] s)) = false := rfl
        rw [takeFault_of_stop (s := queued [] s) hr hstops hop, stopPart, hfree, if_neg Bool.false_ne_true] at hu'
        have hheld' : headHeld (recorded f l s) = true := hheld
        rw [show exec .faultTaken s = .next (takeFault s) from rfl, takeFault_of_stop hr hstops hop, stopPart, hheld', if_pos rfl,
          ← hu']
        change _ = exec row.2 (queued (e :: rest) (enterBypass (recorded f l s)))
        rw [queued_of_queue (s := enterBypass (recorded f l s)) hq, exec_head_of_idle (s := enterBypass (recorded f l s)) hkind hq (.inr (.inr rfl)) rfl,
          executeHead, show (enterBypass (recorded f l s)).dir.queue = e :: rest from hq]

end Sys2Proof.Machine

/-! PROOFS. The status pane: its words from live state and from the latches, and the answers to reads (chapters 11 and 13). -/

namespace Sys2Proof.Machine

variable {s : State} {r r' : Result} {c c' : CommitRecord} {p p' : PeekCopy} {k i j : Nat}

/-! ### The groups of the pane (13.4) -/

theorem length_faultWords (f : Option FaultRecord) : (faultWords f).length = 4 := by cases f <;> rfl

theorem length_locateWords (l : Locate) : l.words.length = 2 := by cases l <;> rfl

theorem length_peekWords (p : PeekCopy) : p.words.length = 4 := by
  unfold PeekCopy.words
  split <;> rfl

theorem length_bankWords (s : State) : (bankWords s).length = 4 := by
  unfold bankWords
  dsimp only
  split <;> rfl

/-- The pane's words in their groups. -/
def paneGroups (r : Result) (c : CommitRecord) (p : PeekCopy) (s : State) : List (List Word) :=
  [ [identityWord,
      pack [(bit s.comp.pass.isSome, 1, 21), (bit s.se.search.isSome, 1, 20), (s.trk.state.code, 2, 16),
        (s.port.strap.toNat, 6, 8), (s.port.cause.code, 2, 4), (s.port.op.code, 3, 0)],
      s.pane.flags.setWidth 32, (maskedEvents s).setWidth 32, s.pane.mask.setWidth 32],
    progressWords s,
    [pointWord s.cu.pos,
      pack [(bit s.cu.edge, 1, 31), (bit s.cu.inRange, 1, 30), (s.cu.source.code, 2, 16), (s.cu.prev.toNat, 4, 0)]],
    r.words, c.words, faultWords s.flt.stopCause, faultWords s.flt.last,
    [s.flt.latch.setWidth 32, liveConditions s, s.trk.frames],
    bankWords s, servingWords s.comp.serving, s.flt.locates.e0.words, s.flt.locates.e1.words, p.words,
    [pack [(s.pane.peek, 11, 0)]] ]

/-- The groups from live state. -/
def liveGroups (s : State) : List (List Word) := paneGroups s.se.result s.band.commit (livePeek s) s

theorem paneWords_eq_flatten : paneWords r c p s = (paneGroups r c p s).flatten := by
  simp only [paneWords, paneGroups, List.flatten_cons, List.flatten_nil, List.append_nil, List.append_assoc]

/-- How many words each group has. -/
def paneLengths : List Nat := [5, 3, 2, 8, 4, 4, 4, 3, 4, 2, 2, 2, 4, 1]

theorem length_paneGroups : (paneGroups r c p s).map List.length = paneLengths := by
  simp only [paneGroups, List.map_cons, List.map_nil, length_faultWords, length_locateWords, length_peekWords, length_bankWords]
  rfl

/-- A word of a list of lists, by the lengths of the lists before its own. -/
theorem getElem?_flatten {L : List (List Word)} {g : List Word} (hg : L[j]? = some g) (hi : i < g.length) :
    L.flatten[((L.map List.length).take j).sum + i]? = g[i]? := by
  induction L generalizing j with
  | nil => simp at hg
  | cons l L ih =>
    cases j with
    | zero =>
      obtain rfl : l = g := by simpa using hg
      simp [List.getElem?_append_left hi]
    | succ j =>
      rw [List.flatten_cons, List.map_cons, List.take_succ_cons, List.sum_cons, Nat.add_assoc,
        List.getElem?_append_right (Nat.le_add_right ..), Nat.add_sub_cancel_left]
      exact ih (by simpa using hg)

/-- Word i of group j of the pane. -/
theorem paneWords_of_group (j : Nat) {g : List Word} (hg : (paneGroups r c p s)[j]? = some g) (hi : i < g.length) :
    (paneWords r c p s)[(paneLengths.take j).sum + i]? = g[i]? := by
  rw [paneWords_eq_flatten, ← length_paneGroups (r := r) (c := c) (p := p) (s := s)]
  exact getElem?_flatten hg hi

theorem some_paneWord_of_group (j : Nat) {g : List Word}
    (hg : (liveGroups s)[j]? = some g) (hi : i < g.length) :
    some (paneWord s ((paneLengths.take j).sum + i)) = g[i]? := by
  rw [paneWord, paneWords_of_group j hg hi, List.getElem?_eq_getElem hi]
  rfl

/-- Words past the last group read as zero. -/
theorem paneWord_of_ge (hk : 48 ≤ k) : paneWord s k = 0 := by
  have hlen : (paneWords s.se.result s.band.commit (livePeek s) s).length = 48 := by
    rw [paneWords_eq_flatten, List.length_flatten, length_paneGroups]
    rfl
  rw [paneWord, List.getElem?_eq_none (by rw [hlen]; exact hk)]
  rfl

/-- The words that no latch stands in front of. -/
theorem paneWords_split (s : State) : ∃ before middle after : List Word, before.length = 10 ∧ middle.length = 21 ∧ ∀ r c p,
    paneWords r c p s = before ++ (r.words ++ c.words ++ (middle ++ (p.words ++ after))) := by
  have hgroups : ∀ r c p, paneGroups r c p s =
      ((liveGroups s).take 3).drop 0 ++ ([r.words, c.words] ++ (((liveGroups s).take 12).drop 5 ++ ([p.words] ++ (liveGroups s).drop 13))) := fun _ _ _ => rfl
  have hlength : ∀ x y : Nat, (((liveGroups s).take x).drop y).flatten.length = ((paneLengths.take x).drop y).sum := fun x y => by
    rw [List.length_flatten, List.map_drop, List.map_take, liveGroups, length_paneGroups]
  refine ⟨_, _, ((liveGroups s).drop 13).flatten, hlength 3 0, hlength 12 5, fun r c p => ?_⟩
  rw [paneWords_eq_flatten, hgroups]
  simp only [List.flatten_append, List.flatten_cons, List.flatten_nil, List.append_nil, List.append_assoc]

/-- Outside the result, the commit and the peek record a HOST read sees live state. -/
theorem hostPaneWord_eq_paneWord (hk : k < 10 ∨ (22 ≤ k ∧ k < 43) ∨ 47 ≤ k) : hostPaneWord s k = paneWord s k := by
  obtain ⟨before, middle, after, hbefore, hmiddle, heq⟩ := paneWords_split s
  have hrecords : ∀ (r : Result) (c : CommitRecord), (r.words ++ c.words).length = 12 := fun _ _ => rfl
  unfold hostPaneWord paneWord
  dsimp only
  rw [heq, heq]
  obtain hk | ⟨hlo, hhi⟩ | hk := hk
  · rw [List.getElem?_append_left (by omega), List.getElem?_append_left (by omega)]
  · have hplace : ∀ (l after : List Word), l.length = 12 → (before ++ (l ++ (middle ++ after)))[k]? = middle[k - 22]? :=
      fun l after hl => by
        rw [List.getElem?_append_right (by omega), List.getElem?_append_right (by omega), List.getElem?_append_left (by omega),
          hbefore, hl, Nat.sub_sub]
    rw [hplace _ _ (hrecords _ _), hplace _ _ (hrecords _ _)]
  · have hplace : ∀ (l q : List Word), l.length = 12 → q.length = 4 →
        (before ++ (l ++ (middle ++ (q ++ after))))[k]? = after[k - 47]? := fun l q hl hq => by
      rw [List.getElem?_append_right (by omega), List.getElem?_append_right (by omega), List.getElem?_append_right (by omega),
        List.getElem?_append_right (by omega), hbefore, hl, hmiddle, hq, Nat.sub_sub, Nat.sub_sub, Nat.sub_sub]
    rw [hplace _ _ (hrecords _ _) (length_peekWords _), hplace _ _ (hrecords _ _) (length_peekWords _)]

/-! ### The peek window (R173) -/

theorem some_hostPaneWord_peek (hi : i < 4) :
    some (hostPaneWord s (43 + i)) = (if i = 0 then livePeek s else s.pane.peekLatch.getD (livePeek s)).words[i]? := by
  have hword : ∀ r c p, (paneWords r c p s)[43 + i]? = p.words[i]? := fun r c p =>
    paneWords_of_group 12 rfl (by rw [length_peekWords]; exact hi)
  simp only [hostPaneWord, hword, Nat.add_eq_left]
  rw [List.getElem?_eq_getElem (by rw [length_peekWords]; exact hi), Option.getD_some]

theorem livePeek_eq {copy : PeekCopy} (hpointer : copy.pointer = s.pane.peek)
    (hentry : ∀ e, copy.entry = some e ↔ ∃ b, currentBank s = some b ∧ b.entries[s.pane.peek]? = some e) : livePeek s = copy := by
  have hsame : (livePeek s).entry = copy.entry := Option.ext fun e => by
    rw [hentry e]
    exact Option.bind_eq_some_iff
  obtain ⟨n, x⟩ := copy
  obtain rfl : s.pane.peek = n := hpointer.symm
  exact congrArg (PeekCopy.mk _) hsame

/-- Settles O28. -/
theorem peekWindowWalks : Obligations.PeekWindowWalks := by
  intro mem s copy hs hpointer hentry
  obtain rfl := livePeek_eq hpointer hentry
  have hopen : exec (.peekLatchOpen mem) s = .next (hostPaneRead 43 mem openPeekLatch s) := rfl
  have hlast : exec (.peekLastWordRead mem) s = .next (hostPaneRead 46 mem closePeekLatch s) := rfl
  rw [hopen, hlast]
  refine ⟨fun hobs => ?_, fun hn => ?_⟩
  · have hfirst : some (hostPaneWord s 43) = (livePeek s).words[0]? := some_hostPaneWord_peek (i := 0) (by decide)
    have hword : some (hostPaneWord s 46) = (s.pane.peekLatch.getD (livePeek s)).words[3]? :=
      some_hostPaneWord_peek (i := 3) (by decide)
    rw [hostPaneRead_of_observes hs hobs, hostPaneRead_of_observes hs hobs]
    refine ⟨by rw [← hfirst]; rfl, fun hclosed => ?_, fun c hc => ?_⟩
    · rw [hclosed, Option.getD_none] at hword
      rw [← hword, closePeekLatch, show (answerRead (hostPaneWord s 46) s).pane.peekLatch = none from hclosed]
      rfl
    · rw [hc, Option.getD_some] at hword
      rw [← hword, closePeekLatch, show (answerRead (hostPaneWord s 46) s).pane.peekLatch = some c from hc]
      rfl
  · rw [hostPaneRead_of_not_observes hs hn, hostPaneRead_of_not_observes hs hn]
    exact ⟨rfl, rfl⟩

end Sys2Proof.Machine

/-! PROOFS. The layouts of the pane and of the records (sections 13.4 and 13.5). -/

namespace Sys2Proof.Machine

variable {s : State} {w : Word} {i j : Nat}

/-! ### Layouts -/

/-- Fields given as (highest bit, lowest bit), each within the word and none meeting another. -/
def placed : List (Nat × Nat) → Bool
  | [] => true
  | f :: rest => decide (f.2 ≤ f.1) && decide (f.1 < 32) && rest.all (fun g => decide (g.1 < f.2) || decide (f.1 < g.2))
      && placed rest

theorem placed_cons {f : Nat × Nat} {l : List (Nat × Nat)} : placed (f :: l) = true ↔
    f.2 ≤ f.1 ∧ f.1 < 32 ∧ (∀ g ∈ l, g.1 < f.2 ∨ f.1 < g.2) ∧ placed l = true := by
  simp [placed, and_assoc]

/-- A packed word has the layout of its fields where these do not meet. -/
theorem laid_of {l : List (Nat × Nat × Nat)} (hw : w = pack (l.map fun f => (f.2.2, f.1 + 1 - f.2.1, f.2.1)))
    (hl : placed (l.map fun f => (f.1, f.2.1)) = true) : Laid w l := by
  have hparts : ∀ k : List (Nat × Nat × Nat), placed (k.map fun f => (f.1, f.2.1)) = true →
      (∀ f ∈ k, f.2.1 ≤ f.1) ∧ Apart (k.map fun f => (f.2.2, f.1 + 1 - f.2.1, f.2.1)) := by
    intro k
    induction k with
    | nil => exact fun _ => ⟨fun _ h => absurd h List.not_mem_nil, trivial⟩
    | cons f k ih =>
      intro h
      obtain ⟨hle, hlt, hfree, hrest⟩ := placed_cons.mp h
      obtain ⟨hordered, hapart⟩ := ih hrest
      refine ⟨List.forall_mem_cons.mpr ⟨hle, hordered⟩, ?_, ?_, fun g hg => ?_, hapart⟩
      · dsimp only at hle ⊢
        omega
      · dsimp only at hle hlt ⊢
        omega
      · obtain ⟨x, hx, rfl⟩ := List.mem_map.mp hg
        have hx' := hfree _ (List.mem_map.mpr ⟨x, hx, rfl⟩)
        have hxle := hordered x hx
        dsimp only at hle hlt hx' ⊢
        omega
  obtain ⟨hordered, hapart⟩ := hparts l hl
  exact laid_of_pack hw hordered hapart

theorem laid_pointWord (p : Pt) : Laid (pointWord p) [(27, 16, p.x.toNat), (11, 0, p.y.toNat)] := laid_of rfl rfl

theorem laid_setWidth {n : Nat} (v : BitVec n) (h0 : 0 < n) (h : n ≤ 32) : Laid (v.setWidth 32) [(n - 1, 0, v.toNat)] := by
  refine laid_of ?_ ?_
  · rw [setWidth_eq_pack v h]
    simp only [List.map_cons, List.map_nil, Nat.sub_add_cancel h0]
    rfl
  · have hlt : n - 1 < 32 := by omega
    simpa [placed] using hlt

theorem getD_map_eq_elim {α : Type} (o : Option α) (f : α → Nat) : (o.map f).getD 0 = o.elim 0 f := by cases o <;> rfl

/-! ### Words of the pane -/

theorem paneWord_eq (j i : Nat) (hw : ((liveGroups s)[j]?.bind fun g => g[i]?) = some w) :
    paneWord s ((paneLengths.take j).sum + i) = w := by
  obtain ⟨g, hg, hi⟩ := Option.bind_eq_some_iff.mp hw
  obtain ⟨hlt, -⟩ := List.getElem?_eq_some_iff.mp hi
  exact Option.some.inj ((some_paneWord_of_group j hg hlt).trans hi)

theorem laid_paneWord (j i : Nat) {l : List (Nat × Nat × Nat)} (hw : ((liveGroups s)[j]?.bind fun g => g[i]?) = some w)
    (hl : Laid w l) : Laid (paneWord s ((paneLengths.take j).sum + i)) l := by
  rwa [paneWord_eq j i hw]

theorem laid_paneWord_state : Laid (paneWord s 1) [(21, 21, s.comp.pass.isSome.toNat), (20, 20, s.se.search.isSome.toNat),
    (17, 16, s.trk.state.code), (13, 8, s.port.strap.toNat), (5, 4, s.port.cause.code), (2, 0, s.port.op.code)] :=
  laid_paneWord 0 1 rfl (laid_of (by simp only [bit_eq_toNat]; rfl) rfl)

theorem laid_paneWord_events : Laid (paneWord s 2) [(8, 0, s.pane.flags.toNat)] ∧
    Laid (paneWord s 3) [(8, 0, (s.pane.flags &&& s.pane.mask).toNat)] ∧ Laid (paneWord s 4) [(8, 0, s.pane.mask.toNat)] :=
  ⟨laid_paneWord 0 2 rfl (laid_setWidth _ (by decide) (by decide)),
    laid_paneWord 0 3 rfl (laid_setWidth (maskedEvents s) (by decide) (by decide)),
    laid_paneWord 0 4 rfl (laid_setWidth _ (by decide) (by decide))⟩

theorem laid_paneWord_progress : Laid (paneWord s 5) [(31, 16, s.dir.progress.count.toNat),
      (15, 8, s.dir.progress.tag.toNat), (7, 0, s.dir.progress.kind.toNat)]
    ∧ Laid (paneWord s 6) [(31, 28, s.dir.progress.slot.toNat), (24, 24, s.dir.progress.reason.isSome.toNat),
      (19, 16, s.dir.progress.reason.elim 0 Reason.number), (12, 8, s.dir.queue.length)] :=
  ⟨laid_paneWord 1 0 rfl (laid_of rfl rfl),
    laid_paneWord 1 1 rfl (laid_of (by simp only [bit_eq_toNat, getD_map_eq_elim]; rfl) rfl)⟩

theorem searchBound_kindOfCode (k : BitVec 8) : (kindOfCode k).searchBound = decide (13 ≤ k.toNat ∧ k.toNat ≤ 22) := by
  rw [Bool.eq_iff_iff, decide_eq_true_iff]
  refine ⟨code_of_searchBound, fun ⟨hlo, hhi⟩ => ?_⟩
  unfold kindOfCode
  generalize k.toNat = n at hlo hhi
  interval_cases n <;> rfl

theorem headHeld_cons {e : DirEntry} {l : List DirEntry} (hq : s.dir.queue = e :: l) :
    headHeld s = (decide (13 ≤ e.kind.toNat ∧ e.kind.toNat ≤ 22) && s.se.search.isSome) := by
  rw [headHeld, hq, ← searchBound_kindOfCode]
  rfl

theorem paneWord_head_of_empty (hq : s.dir.queue = []) : paneWord s 7 = 0 := by
  have hword : paneWord s 7 = _ := paneWord_eq 1 2 rfl
  rw [hword, headHeld, hq]
  simp [pack, bit]

theorem laid_paneWord_head {e : DirEntry} {l : List DirEntry} (hq : s.dir.queue = e :: l) : Laid (paneWord s 7)
    [(31, 31, (decide (13 ≤ e.kind.toNat ∧ e.kind.toNat ≤ 22) && s.se.search.isSome).toNat), (27, 24, e.slot.toNat),
      (7, 0, e.kind.toNat)] := by
  refine laid_paneWord 1 2 rfl (laid_of ?_ rfl)
  rw [headHeld_cons hq, hq, bit_eq_toNat]
  rfl

theorem laid_paneWord_cursor : Laid (paneWord s 8) [(27, 16, s.cu.pos.x.toNat), (11, 0, s.cu.pos.y.toNat)]
    ∧ Laid (paneWord s 9) [(31, 31, s.cu.edge.toNat), (30, 30, s.cu.inRange.toNat), (17, 16, s.cu.source.code),
      (3, 0, s.cu.prev.toNat)] :=
  ⟨laid_paneWord 2 0 rfl (laid_pointWord _), laid_paneWord 2 1 rfl (laid_of (by simp only [bit_eq_toNat]; rfl) rfl)⟩

theorem findBank_eq_of_iff {b : Triplet Bank} {st : BankState} {o : Option BankId}
    (h : ∀ i, o = some i ↔ (b.get i).state = st) : findBank b st = o := by
  cases hf : findBank b st with
  | some i => exact ((h i).mpr (state_of_findBank hf)).symm
  | none =>
    refine (Option.eq_none_iff_forall_ne_some.mpr fun i hi => ?_).symm
    exact findBank_eq_none_iff.mp hf i ((h i).mp hi)

/-- The live conditions, with the number of the CURRENT bank named (R184). -/
theorem laid_paneWord_conditions {cur : Option BankId} (hcur : findBank s.hv.banks .current = cur) : Laid (paneWord s 31)
    [(0, 0, (decide (s.trk.state = .lost)).toNat),
      (1, 1, (cur.elim false fun i => (s.hv.banks.get i).header.crowded).toNat), (2, 2, s.se.result.stale.toNat),
      (3, 3, (s.comp.serving.shedDash || s.comp.serving.shedTrail || s.comp.serving.shedMarker
        || s.comp.serving.shedBand).toNat),
      (4, 4, (!s.cu.inRange).toNat), (5, 5, s.pat.frozen.toNat), (6, 6, (decide (s.dir.queue.length = 16)).toNat)] := by
  have hcrowded : ((currentBank s).any fun b => b.header.crowded) = cur.elim false fun i => (s.hv.banks.get i).header.crowded := by
    rw [currentBank, hcur]
    cases cur <;> rfl
  refine laid_paneWord 7 1 rfl (laid_of ?_ rfl)
  simp only [liveConditions, hcrowded, bit_eq_toNat, beq_eq_decide]
  rfl

/-- The header summary of the banks (R170). -/
theorem bankWords_of_none (hcur : findBank s.hv.banks .current = none) : ∃ w, bankWords s = [w, 0, 0, 0]
    ∧ Laid w [(31, 30, 3), (29, 28, bankNumber (findBank s.hv.banks .ready)),
      (27, 26, bankNumber (findBank s.hv.banks .filling))] := by
  rw [bankWords, currentBank, hcur]
  exact ⟨_, rfl, laid_of (by simp only [bankCode_eq]; rfl) rfl⟩

theorem bankWords_of_some {i : BankId} (hcur : findBank s.hv.banks .current = some i) : ∃ w x y, bankWords s =
      [w, (s.hv.banks.get i).header.frame, x, y]
    ∧ Laid w [(31, 30, i.number), (29, 28, bankNumber (findBank s.hv.banks .ready)),
      (27, 26, bankNumber (findBank s.hv.banks .filling)), (25, 25, (s.hv.banks.get i).header.crowded.toNat),
      (24, 24, (s.hv.banks.get i).header.incomplete.toNat), (21, 11, (s.hv.banks.get i).header.half),
      (10, 0, (s.hv.banks.get i).entries.length)]
    ∧ Laid x [(27, 16, (s.hv.banks.get i).header.centre.x.toNat), (11, 0, (s.hv.banks.get i).header.centre.y.toNat)]
    ∧ Laid y [(15, 0, (s.hv.banks.get i).header.dropped)] := by
  rw [bankWords, currentBank, hcur]
  exact ⟨_, _, _, rfl, laid_of (by simp only [bankCode_eq, bit_eq_toNat]; rfl) rfl, laid_pointWord _, laid_of rfl rfl⟩

/-- The serving list's words (R126). -/
theorem laid_paneWord_serving : Laid (paneWord s 37) [(31, 31, s.comp.serving.dashCapped.toNat),
      (30, 30, s.comp.serving.shedDash.toNat), (29, 29, s.comp.serving.shedTrail.toNat),
      (28, 28, s.comp.serving.shedMarker.toNat), (27, 27, s.comp.serving.shedBand.toNat), (20, 16, s.comp.serving.shedCount),
      (10, 0, s.comp.serving.words.length)]
    ∧ Laid (paneWord s 38) [(15, 0, s.comp.serving.resultSeq.toNat)] :=
  ⟨laid_paneWord 9 0 rfl (laid_of (by simp only [bit_eq_toNat]; rfl) rfl), laid_paneWord 9 1 rfl (laid_of rfl rfl)⟩

/-! ### The ATTENTION line (R175) -/

theorem attention_iff : attention s = true ↔ ∃ i, i < 9 ∧ s.pane.flags.getLsbD i = true ∧ s.pane.mask.getLsbD i = true := by
  rw [attention, bne_iff_ne, ne_eq, maskedEvents]
  constructor
  · intro h
    by_contra hnone
    refine h (BitVec.eq_of_getLsbD_eq fun i hi => ?_)
    have hi' := not_exists.mp hnone i
    simp only [hi, true_and, not_and] at hi'
    rw [BitVec.getLsbD_and]
    cases hf : s.pane.flags.getLsbD i with
    | false => simp
    | true => simp [hi' hf]
  · rintro ⟨i, -, hflag, hmask⟩ hzero
    have hbit := congrArg (fun v : BitVec 9 => v.getLsbD i) hzero
    simp [hflag, hmask] at hbit

/-! ### The answers to reads (R189; log 11) -/

variable {a : Addr} {mem : Word} {tag : Tag} {k : Nat}

theorem readAnswer_of_pane (ho : Observes s) (hs : s.port.strap ≠ 63#6) (hk : k < 64)
    (ha : a.toNat = s.port.strap.toNat * 0x4000 + 0x80 + k) :
    readAnswer tag a mem s = if tag = .host then hostPaneWord s k else paneWord s k := by
  rw [readAnswer, if_pos (paneAnswers_iff.mpr ho), paneIndex_eq_some_iff.mpr ⟨hs, hk, ha⟩]

theorem paneIndex_of_no_pane
    (hpane : ¬ (Observes s ∧ InStrapBlock s.port.strap a.toNat ∧ s.port.strap.toNat * 0x4000 + 0x80 ≤ a.toNat)) :
    (if paneAnswers s then paneIndex s.port.strap a else none) = none := by
  split
  · next h => exact paneIndex_eq_none_iff.mpr fun hin => hpane ⟨paneAnswers_iff.mp h, hin⟩
  · rfl

theorem readAnswer_of_window
    (hpane : ¬ (Observes s ∧ InStrapBlock s.port.strap a.toNat ∧ s.port.strap.toNat * 0x4000 + 0x80 ≤ a.toNat))
    (hop : s.port.op = .active) (hk : windowOffset s a = some k) : readAnswer tag a mem s = s.comp.serving.wordOr k := by
  rw [readAnswer, paneIndex_of_no_pane hpane, if_pos hop, hk]

theorem readAnswer_of_memory
    (hpane : ¬ (Observes s ∧ InStrapBlock s.port.strap a.toNat ∧ s.port.strap.toNat * 0x4000 + 0x80 ≤ a.toNat))
    (hout : s.port.op ≠ .active ∨ windowOffset s a = none) : readAnswer tag a mem s = mem := by
  have hnone : (if s.port.op = .active then windowOffset s a else none) = none := by
    obtain hop | hout := hout
    · exact if_neg hop
    · rw [hout, ite_self]
  rw [readAnswer, paneIndex_of_no_pane hpane, hnone]

theorem windowOffset_eq_none_of_outside (h : ∀ m, s.port.config = some m → ¬ m.InWindow a.toNat) : windowOffset s a = none := by
  rw [windowOffset]
  cases hm : s.port.config with
  | none => rfl
  | some m => exact if_neg (h m hm)

/-! ### The rows (R173, R175, R176) -/

variable {e : DirEntry} {rest : List DirEntry}

theorem exec_clearEvents (h : AtHead 26 e rest s) : exec .clearEvents s = .next { accepted e rest s with
    pane := { s.pane with flags := (accepted e rest s).pane.flags &&& ~~~ BitVec.ofNat 9 (e.argU 0) } } := by
  have hrun := h.runDirective_eq (f := applyClearEvents) (h.not_searchBound rfl)
  obtain ⟨hq, hkind, ho⟩ := h
  have hdir : e.dirKind = .clearEvents := by
    rw [DirEntry.dirKind, hkind]
    rfl
  have hmay : mayExecute e s = true := mayExecute_of_observes ho (.inl (by rw [hdir]; rfl))
  rw [show exec .clearEvents s = execClearEvents s from rfl, execClearEvents, hq]
  refine congrArg Host.Outcome.next ((if_pos ⟨hdir, hmay⟩).trans ?_)
  rw [executeEntry_eq_accepted rfl hq]
  rfl

theorem applySetPeek_eq (e : DirEntry) (s : State) : applySetPeek e s =
    ({ s with pane := { s.pane with peek := min 1023 (e.argU 0), peekLatch := none } }, none) := by
  rw [applySetPeek, clampNat_zero]

/-- Settles O50. -/
theorem paneRows : Obligations.PaneRows := by
  intro e rest s copy cur ready filling hpointer hentry hcur hready hfilling
  obtain rfl := livePeek_eq hpointer hentry
  obtain rfl := findBank_eq_of_iff hcur
  obtain rfl := findBank_eq_of_iff hready
  obtain rfl := findBank_eq_of_iff hfilling
  refine ⟨fun h => h.exec_accepted (f := applySetNotify) (h.not_searchBound rfl) rfl rfl rfl, exec_clearEvents,
    fun h => h.exec_accepted (h.not_searchBound rfl) rfl (applySetPeek_eq e s) rfl, attention_iff, paneWord_eq 0 0 rfl,
    laid_paneWord_state, laid_paneWord_events.1, laid_paneWord_events.2.1, laid_paneWord_events.2.2,
    laid_paneWord_progress.1, laid_paneWord_progress.2, paneWord_head_of_empty, fun x l hq => laid_paneWord_head hq,
    laid_paneWord_cursor.1, laid_paneWord_cursor.2, fun k hk => ⟨some_paneWord_of_group 3 rfl hk, some_hostPaneWord_result s hk⟩,
    fun k hk => ⟨some_paneWord_of_group 4 rfl hk, some_hostPaneWord_commit s hk,
      some_paneWord_of_group 5 rfl (by rwa [length_faultWords]), some_paneWord_of_group 6 rfl (by rwa [length_faultWords]),
      some_paneWord_of_group 12 rfl (by rwa [length_peekWords]), some_hostPaneWord_peek hk⟩,
    laid_paneWord 7 0 rfl (laid_setWidth _ (by decide) (by decide)), laid_paneWord_conditions rfl, paneWord_eq 7 2 rfl,
    fun hnone => ?_, fun i h hi hh => ?_, laid_paneWord_serving.1, laid_paneWord_serving.2,
    fun k hk => ⟨some_paneWord_of_group 10 rfl (by rwa [length_locateWords]),
      some_paneWord_of_group 11 rfl (by rwa [length_locateWords])⟩,
    laid_paneWord 13 0 rfl (laid_of rfl rfl), fun k hk => paneWord_of_ge hk, fun k hk => hostPaneWord_eq_paneWord hk,
    fun tag a mem => ⟨fun k hk ho hs ha => readAnswer_of_pane ho hs hk ha, fun hpane => ⟨fun m hm hop k hk ha => ?_, fun hout => ?_⟩⟩⟩
  · obtain ⟨w, hwords, hlaid⟩ := bankWords_of_none hnone
    have hgroup : (liveGroups s)[8]? = some [w, 0, 0, 0] := congrArg some hwords
    exact ⟨laid_paneWord 8 0 (by rw [hgroup]; rfl) hlaid, paneWord_eq 8 1 (by rw [hgroup]; rfl),
      paneWord_eq 8 2 (by rw [hgroup]; rfl), paneWord_eq 8 3 (by rw [hgroup]; rfl)⟩
  · obtain rfl := hh
    obtain ⟨w, x, y, hwords, hw, hx, hy⟩ := bankWords_of_some hi
    have hgroup : (liveGroups s)[8]? = some [w, (s.hv.banks.get i).header.frame, x, y] := congrArg some hwords
    exact ⟨laid_paneWord 8 0 (by rw [hgroup]; rfl) hw, paneWord_eq 8 1 (by rw [hgroup]; rfl),
      laid_paneWord 8 2 (by rw [hgroup]; rfl) hx, laid_paneWord 8 3 (by rw [hgroup]; rfl) hy⟩
  · exact readAnswer_of_window hpane hop (hm.windowOffset_eq_some_iff.mpr ⟨hk, ha⟩)
  · exact readAnswer_of_memory hpane (hout.imp_right windowOffset_eq_none_of_outside)

end Sys2Proof.Machine

/-! PROOFS. The records of the composer and of the pane as words (sections 1.2, 7.1 and 13.5). -/

namespace Sys2Proof.Machine

variable {w : Word} {r : Rec} {l : List (Nat × Nat × Nat)}

/-! ### Fields of a packed word -/

theorem bitsOf_of_laid (h : Laid w l) {f : Nat × Nat × Nat} (hf : f ∈ l) :
    bitsOf w f.2.1 (f.1 + 1 - f.2.1) = f.2.2 % 2 ^ (f.1 + 1 - f.2.1) := h.1 f hf

/-- A field of value 0 adds nothing. -/
theorem pack_zero (width lo : Nat) (l : List (Nat × Nat × Nat)) : pack ((0, width, lo) :: l) = pack l := by
  simp [pack]

theorem pack_append_zero (width lo : Nat) (l : List (Nat × Nat × Nat)) : pack (l ++ [(0, width, lo)]) = pack l := by
  induction l with
  | nil => exact pack_zero width lo []
  | cons f l ih => simp [pack, ih]

/-! ### The tracker reads a composed record back (R2, R114) -/

/-- The head word of a record with a point. -/
def pointHead (k : Nat) (p : Pt) : Word := pack [(k, 4, 28), (p.x.toNat, 12, 12), (p.y.toNat, 12, 0)]

theorem pointHead_fields (k : Nat) {p : Pt} (hp : p.OnScreen) :
    bitsOf (pointHead k p) 28 4 = k % 16 ∧ headPoint (pointHead k p) = p := by
  have hlaid : Laid (pointHead k p) [(31, 28, k), (23, 12, p.x.toNat), (11, 0, p.y.toNat)] := laid_of rfl rfl
  have hx : bitsOf (pointHead k p) 12 12 = p.x.toNat % 4096 := bitsOf_of_laid hlaid (f := (23, 12, p.x.toNat)) (by simp)
  have hy : bitsOf (pointHead k p) 0 12 = p.y.toNat % 4096 := bitsOf_of_laid hlaid (f := (11, 0, p.y.toNat)) (by simp)
  refine ⟨bitsOf_of_laid hlaid (f := (31, 28, k)) (by simp), ?_⟩
  obtain ⟨hx0, hx1, hy0, hy1⟩ := hp
  rw [headPoint, hx, hy]
  obtain ⟨x, y⟩ := p
  dsimp only at *
  exact Pt.mk.injEq .. ▸ ⟨by omega, by omega⟩

theorem encode_move (p : Pt) : (Rec.move p).encode = [pointHead 1 p] := rfl

theorem encode_draw (p : Pt) : (Rec.draw p).encode = [pointHead 2 p] := rfl

theorem encode_circle (p : Pt) (n : Nat) : (Rec.circle p n).encode = [pointHead 3 p, pack [(n, 12, 0)]] := rfl

theorem decodeHead_move {p : Pt} (hp : p.OnScreen) : decodeHead (pointHead 1 p) = .move p := by
  obtain ⟨hkind, hpoint⟩ := pointHead_fields 1 hp
  rw [decodeHead, hkind, hpoint]
  rfl

theorem decodeHead_draw {p : Pt} (hp : p.OnScreen) : decodeHead (pointHead 2 p) = .draw p := by
  obtain ⟨hkind, hpoint⟩ := pointHead_fields 2 hp
  rw [decodeHead, hkind, hpoint]
  rfl

theorem decodeHead_circle {p : Pt} (hp : p.OnScreen) : decodeHead (pointHead 3 p) = .circle p := by
  obtain ⟨hkind, hpoint⟩ := pointHead_fields 3 hp
  rw [decodeHead, hkind, hpoint]
  rfl

theorem decodeHead_returnWord : decodeHead returnWord = .ret := by decide

/-- The word of an ENTITY record. -/
def entityHead (i : Nat) : Word := pack [(5, 4, 28), (i, 3, 24), (1, 1, 16)]

theorem encode_entity (i : Nat) : (Rec.entity i).encode = [entityHead i] := rfl

theorem decodeHead_entity {i : Nat} (hi : i ≤ 7) : decodeHead (entityHead i) = .entity ⟨BitVec.ofNat 3 i, true, 0⟩ := by
  have hlaid : Laid (entityHead i) [(31, 28, 5), (26, 24, i), (16, 16, 1), (15, 0, 0)] :=
    laid_of (pack_append_zero 16 0 _).symm rfl
  have hkind : bitsOf (entityHead i) 28 4 = 5 :=
    bitsOf_of_laid hlaid (f := (31, 28, 5)) (by simp)
  have hintensity : bitsOf (entityHead i) 24 3 = i % 8 :=
    bitsOf_of_laid hlaid (f := (26, 24, i)) (by simp)
  have hinert : bitsOf (entityHead i) 16 1 = 1 :=
    bitsOf_of_laid hlaid (f := (16, 16, 1)) (by simp)
  have htag : bitsOf (entityHead i) 0 16 = 0 :=
    bitsOf_of_laid hlaid (f := (15, 0, 0)) (by simp)
  rw [decodeHead, hkind]
  simp only [headAttr, hintensity, hinert, htag, Nat.mod_eq_of_lt (show i < 8 by omega)]
  rfl

theorem circleRadius_pack {n : Nat} (hn : n ≤ 4095) : circleRadius (pack [(n, 12, 0)]) = n := by
  have hlaid : Laid (pack [(n, 12, 0)]) [(11, 0, n)] := laid_of rfl rfl
  exact (bitsOf_of_laid hlaid (f := (11, 0, n)) (by simp)).trans (Nat.mod_eq_of_lt (by dsimp only; omega))

/-- The record at the front of a list of words, as the tracker reads it, and the words after it. -/
def readRecord : List Word → Option (Rec × List Word)
  | [] => none
  | w :: t =>
    match decodeHead w with
    | .entity a => some (.entity a.intensity.toNat, t)
    | .move p => some (.move p, t)
    | .draw p => some (.draw p, t)
    | .circle c => t.head?.map fun x => (.circle c (circleRadius x), t.tail)
    | .ret => some (.ret, t)
    | _ => none

theorem readRecord_encode (h : r.Ok) (t : List Word) : readRecord (r.encode ++ t) = some (r, t) := by
  cases r with
  | entity i =>
    have hi : i ≤ 7 := h
    have hback : (BitVec.ofNat 3 i).toNat = i := by
      rw [BitVec.toNat_ofNat]
      omega
    rw [encode_entity, List.singleton_append, readRecord, decodeHead_entity hi]
    dsimp only
    rw [hback]
  | move p => simp only [encode_move, List.singleton_append, readRecord, decodeHead_move h]
  | draw p => simp only [encode_draw, List.singleton_append, readRecord, decodeHead_draw h]
  | circle c n =>
    simp only [encode_circle, List.cons_append, List.nil_append, readRecord, decodeHead_circle h.1, List.head?_cons,
      Option.map_some, circleRadius_pack h.2, List.tail_cons]
  | ret => simp only [Rec.encode, List.singleton_append, readRecord, decodeHead_returnWord]

theorem recWords_cons (r : Rec) (l : List Rec) : recWords (r :: l) = r.encode ++ recWords l := rfl

/-- Reading record after record undoes the writing. -/
theorem recWords_injective {k l : List Rec} (hk : ∀ r ∈ k, r.Ok) (hl : ∀ r ∈ l, r.Ok) (h : recWords k = recWords l) : k = l := by
  have hnone : ∀ (r : Rec) (l : List Rec), r.Ok → recWords [] ≠ recWords (r :: l) := fun r l hr heq => by
    have hread := readRecord_encode hr (recWords l)
    rw [← recWords_cons, ← heq] at hread
    cases hread
  induction k generalizing l with
  | nil =>
    cases l with
    | nil => rfl
    | cons r l => exact absurd h (hnone r l (hl r List.mem_cons_self))
  | cons r k ih =>
    cases l with
    | nil => exact absurd h.symm (hnone r k (hk r List.mem_cons_self))
    | cons x l =>
      have hread := readRecord_encode (hk r List.mem_cons_self) (recWords k)
      rw [← recWords_cons, h, recWords_cons, readRecord_encode (hl x List.mem_cons_self)] at hread
      obtain ⟨rfl, hrest⟩ := Prod.ext_iff.mp (Option.some.inj hread)
      rw [ih (fun y hy => hk y (List.mem_cons_of_mem _ hy)) (fun y hy => hl y (List.mem_cons_of_mem _ hy)) hrest.symm]

/-! ### The records of the pane (13.5) -/

theorem extBit_le_one (v : Int) : extBit v ≤ 1 := by
  rw [extBit_eq]
  omega

/-- The extension bits of two points, bit by bit. -/
theorem pack_extBits {a b c d : Nat} (hb : b ≤ 1) (hc : c ≤ 1) (hd : d ≤ 1) (v : Nat) :
    pack [(a * 8 + b * 4 + c * 2 + d, 4, 20), (v, 20, 0)] =
      pack [(a, 1, 23), (b, 1, 22), (c, 1, 21), (d, 1, 20), (v, 20, 0)] := by
  have hsum : BitVec.ofNat 32 ((a * 8 + b * 4 + c * 2 + d) % 2 ^ 4 * 2 ^ 20) = BitVec.ofNat 32 (a % 2 ^ 1 * 2 ^ 23)
      + BitVec.ofNat 32 (b % 2 ^ 1 * 2 ^ 22) + BitVec.ofNat 32 (c % 2 ^ 1 * 2 ^ 21) + BitVec.ofNat 32 (d % 2 ^ 1 * 2 ^ 20) := by
    rw [← BitVec.ofNat_add, ← BitVec.ofNat_add, ← BitVec.ofNat_add]
    exact congrArg (BitVec.ofNat 32) (by omega)
  simp only [pack, hsum, BitVec.add_assoc]

theorem laid_pairWord (p : Pt) : Laid (pack [(lowBits 16 p.x, 16, 16), (lowBits 16 p.y, 16, 0)])
    [(31, 16, (p.x % 2 ^ 16).toNat), (15, 0, (p.y % 2 ^ 16).toNat)] := laid_of rfl rfl

/-- The words of a result record. -/
theorem laid_resultWords (r : Result) : ∃ w0 w1 w2 w3 w4 w5 w7, r.words = [w0, w1, w2, w3, w4, w5, r.bankFrame, w7]
    ∧ Laid w0 [(31, 16, r.seq.toNat), (15, 15, r.press.toNat), (11, 8, r.kind.code), (7, 7, r.stale.toNat),
      (6, 6, r.withdrawn.toNat), (5, 5, r.edge.toNat), (4, 4, r.held.toNat), (3, 3, r.gridded.toNat),
      (2, 2, r.unconstrained.toNat), (1, 1, r.outOfRange.toNat), (0, 0, r.source.isNone.toNat)]
    ∧ Laid w1 [(27, 16, r.point.x.toNat), (11, 0, r.point.y.toNat)]
    ∧ Laid w2 [(27, 16, r.cursor.x.toNat), (11, 0, r.cursor.y.toNat)] ∧ Laid w3 [(31, 0, r.d2)]
    ∧ Laid w4 [(19, 0, r.source.elim 0 fun x => x.1.toNat)] ∧ Laid w5 [(15, 0, r.source.elim 0 fun x => x.2.toNat)]
    ∧ Laid w7 [(15, 0, r.seq.toNat)] :=
  ⟨_, _, _, _, _, _, _, rfl, laid_of (by simp only [bit_eq_toNat]; rfl) rfl, laid_pointWord _, laid_pointWord _,
    laid_of rfl rfl, laid_of (by rw [getD_map_eq_elim]; rfl) rfl, laid_of (by rw [getD_map_eq_elim]; rfl) rfl,
    laid_of rfl rfl⟩

/-- The words of a commit record. -/
theorem laid_commitWords (c : CommitRecord) : ∃ w0 w1 w2 w3, c.words = [w0, w1, w2, w3]
    ∧ Laid w0 [(31, 16, c.seq.toNat), (13, 12, c.action.code), (11, 11, c.full.toNat), (10, 10, c.source.isNone.toNat),
      (9, 8, c.button.val), (3, 0, c.kind.code)]
    ∧ Laid w1 [(27, 16, c.point.x.toNat), (11, 0, c.point.y.toNat)]
    ∧ Laid w2 [(19, 0, c.source.elim 0 fun x => x.1.toNat)]
    ∧ Laid w3 [(31, 16, c.source.elim 0 fun x => x.2.toNat), (15, 0, c.resultSeq.toNat)] :=
  ⟨_, _, _, _, rfl, laid_of (by simp only [bit_eq_toNat]; rfl) rfl, laid_pointWord _,
    laid_of (by rw [getD_map_eq_elim]; rfl) rfl, laid_of (by rw [getD_map_eq_elim]; rfl) rfl⟩

/-- The words of a locate record. -/
theorem laid_locateWords (p : Pt) (depth : Nat) (tag : Half) : ∃ w0 w1, (Locate.known p depth tag).words = [w0, w1]
    ∧ Laid w0 [(31, 30, 1), (27, 24, depth), (17, 17, (p.x % 2 ^ 17 / 2 ^ 16).toNat),
      (16, 16, (p.y % 2 ^ 17 / 2 ^ 16).toNat), (15, 0, tag.toNat)]
    ∧ Laid w1 [(31, 16, (p.x % 2 ^ 16).toNat), (15, 0, (p.y % 2 ^ 16).toNat)] :=
  ⟨_, _, rfl, laid_of (by rw [extBit_eq, extBit_eq]; rfl) rfl, laid_pairWord p⟩

/-- The words of the peek window at an entry (R173). -/
theorem laid_peekWords (n : Nat) (e : Entry) : ∃ w0 w1 w2 w3, (⟨n, some e⟩ : PeekCopy).words = [w0, w1, w2, w3]
    ∧ (∀ k p, e.shape = .point k p →
      Laid w0 [(30, 30, e.withdrawn.toNat), (29, 28, 1), (27, 26, k.code), (25, 16, n), (15, 0, e.tag.toNat)]
      ∧ Laid w1 [(19, 0, e.source.addr.toNat)] ∧ Laid w2 [(31, 16, (p.x % 2 ^ 16).toNat), (15, 0, (p.y % 2 ^ 16).toNat)]
      ∧ w3 = 0)
    ∧ (∀ p q, e.shape = .segment p q →
      Laid w0 [(30, 30, e.withdrawn.toNat), (29, 28, 2), (25, 16, n), (15, 0, e.tag.toNat)]
      ∧ Laid w1 [(23, 23, (p.x % 2 ^ 17 / 2 ^ 16).toNat), (22, 22, (p.y % 2 ^ 17 / 2 ^ 16).toNat),
        (21, 21, (q.x % 2 ^ 17 / 2 ^ 16).toNat), (20, 20, (q.y % 2 ^ 17 / 2 ^ 16).toNat), (19, 0, e.source.addr.toNat)]
      ∧ Laid w2 [(31, 16, (p.x % 2 ^ 16).toNat), (15, 0, (p.y % 2 ^ 16).toNat)]
      ∧ Laid w3 [(31, 16, (q.x % 2 ^ 16).toNat), (15, 0, (q.y % 2 ^ 16).toNat)])
    ∧ (∀ c r, e.shape = .circle c r →
      Laid w0 [(30, 30, e.withdrawn.toNat), (29, 28, 3), (25, 16, n), (15, 0, e.tag.toNat)]
      ∧ Laid w1 [(23, 23, (c.x % 2 ^ 17 / 2 ^ 16).toNat), (22, 22, (c.y % 2 ^ 17 / 2 ^ 16).toNat),
        (19, 0, e.source.addr.toNat)]
      ∧ Laid w2 [(31, 16, (c.x % 2 ^ 16).toNat), (15, 0, (c.y % 2 ^ 16).toNat)] ∧ Laid w3 [(11, 0, r)]) := by
  have hhead : ∀ t, pack [(bit e.withdrawn, 1, 30), (t, 2, 28), (0, 2, 26), (n, 10, 16), (e.tag.toNat, 16, 0)] =
      pack [(e.withdrawn.toNat, 1, 30), (t, 2, 28), (n, 10, 16), (e.tag.toNat, 16, 0)] := fun t => by
    rw [bit_eq_toNat, pack, pack, pack_zero]
    rfl
  refine ⟨_, _, _, _, rfl, fun k p hs => ?_, fun p q hs => ?_, fun c r hs => ?_⟩
  · rw [hs]
    exact ⟨laid_of (by rw [bit_eq_toNat]; rfl) rfl, laid_of (pack_zero 4 20 _) rfl, laid_pairWord p, rfl⟩
  · rw [hs]
    refine ⟨laid_of (hhead 2) rfl, laid_of ?_ rfl, laid_pairWord p, laid_pairWord q⟩
    simp only [← extBit_eq]
    exact pack_extBits (extBit_le_one _) (extBit_le_one _) (extBit_le_one _) _
  · rw [hs]
    refine ⟨laid_of (hhead 3) rfl, laid_of ?_ rfl, laid_pairWord c, laid_of rfl rfl⟩
    have hbits := pack_extBits (a := extBit c.x) (extBit_le_one c.y) (Nat.zero_le 1) (Nat.zero_le 1) e.source.addr.toNat
    simp only [← extBit_eq]
    refine hbits.trans ?_
    rw [pack, pack, pack_zero, pack_zero]
    rfl

/-- The tracker reads back what the composer writes, record by record (R2, R114). -/
theorem decodeHead_encode {l : List Word} (hok : r.Ok) (h : r.encode = w :: l) :
    (∀ i, r = .entity i → decodeHead w = .entity ⟨BitVec.ofNat 3 i, true, 0⟩ ∧ l = [])
    ∧ (∀ p, r = .move p → decodeHead w = .move p ∧ l = [])
    ∧ (∀ p, r = .draw p → decodeHead w = .draw p ∧ l = [])
    ∧ (∀ c n, r = .circle c n → decodeHead w = .circle c ∧ ∃ x, l = [x] ∧ circleRadius x = n)
    ∧ (r = .ret → decodeHead w = .ret ∧ l = []) := by
  refine ⟨?_, ?_, ?_, ?_, ?_⟩
  · rintro i rfl
    obtain ⟨rfl, rfl⟩ := List.cons_eq_cons.mp ((encode_entity i).symm.trans h)
    exact ⟨decodeHead_entity hok, rfl⟩
  · rintro p rfl
    obtain ⟨rfl, rfl⟩ := List.cons_eq_cons.mp ((encode_move p).symm.trans h)
    exact ⟨decodeHead_move hok, rfl⟩
  · rintro p rfl
    obtain ⟨rfl, rfl⟩ := List.cons_eq_cons.mp ((encode_draw p).symm.trans h)
    exact ⟨decodeHead_draw hok, rfl⟩
  · rintro c n rfl
    obtain ⟨hcentre, hradius⟩ := hok
    obtain ⟨rfl, rfl⟩ := List.cons_eq_cons.mp ((encode_circle c n).symm.trans h)
    exact ⟨decodeHead_circle hcentre, _, rfl, circleRadius_pack hradius⟩
  · rintro rfl
    obtain ⟨rfl, rfl⟩ := List.cons_eq_cons.mp (show [returnWord] = w :: l from h)
    exact ⟨decodeHead_returnWord, rfl⟩

/-- Settles O56. -/
theorem recordsDecode : Obligations.RecordsDecode :=
  ⟨fun _ _ _ => decodeHead_encode, fun _ _ => recWords_injective, laid_resultWords, laid_commitWords, rfl,
    fun _ => ⟨_, _, _, _, rfl, laid_of rfl rfl, laid_of rfl rfl, laid_of rfl rfl, laid_of rfl rfl⟩, rfl,
    by simp [Locate.words, pack], laid_locateWords, fun n => by simp [PeekCopy.words, pack], laid_peekWords,
    rfl, rfl, rfl, rfl, rfl, rfl, rfl, rfl, rfl⟩

end Sys2Proof.Machine

/-! PROOFS. The end of a pass, and the list that the pass stages by the shedding order (sections 7.2 and 7.5). -/

namespace Sys2Proof.Machine

variable {s : State} {i : PassInputs}

/-! ### The end of a pass (R115) -/

theorem exec_passEnd_of_pass (h : s.comp.pass = some i) : exec .passEnd s = .next (endPass i s) := by
  rw [show exec .passEnd s = execPassEnd s from rfl, execPassEnd, h]

theorem exec_passEnd_of_quiet (h : s.comp.pass = none) : exec .passEnd s = .next s := by
  rw [show exec .passEnd s = execPassEnd s from rfl, execPassEnd, h]

theorem endPass_of_once (h : s.comp.again = false) :
    endPass i s = { s with comp := { s.comp with pass := none, staged := composeList i } } := by
  rw [endPass]
  exact if_neg (by rw [h]; exact Bool.false_ne_true)

theorem endPass_of_again (h : s.comp.again = true) : endPass i s =
    { s with comp := { s.comp with pass := some (passInputs s), again := false, staged := composeList i } } := by
  rw [endPass]
  exact if_pos h

/-- The inputs that a pass reads at its start. -/
theorem passInputs_eq (s : State) : passInputs s = ⟨s.cu.pos, s.cu.inRange, s.se.result.point, s.se.result.kind,
    s.se.result.seq, s.band.anchor.map Anchor.point, s.band.trail, s.band.shape, s.band.period, s.band.onLen, s.pat.phase,
    s.pat.a.out, s.pat.b.out, s.comp.style, windowLimit s⟩ := by
  rw [passInputs, windowLimit]
  cases s.port.config <;> rfl

/-! ### The shedding order (R125) -/

/-- How many of the oldest vertices shedding may leave out. -/
def droppable (i : PassInputs) : Nat := if i.shape = .poly then i.trail.length - 1 else 0

/-- The layouts with the marker and the band in place. -/
def fullLayouts (i : PassInputs) : List Layout :=
  ⟨false, 0, true, true⟩ :: ⟨true, 0, true, true⟩ :: (List.range (droppable i)).map fun k => ⟨true, k + 1, true, true⟩

theorem sheddingOrder_eq (i : PassInputs) : sheddingOrder i =
    fullLayouts i ++ [⟨true, droppable i, false, true⟩, ⟨true, droppable i, false, false⟩] := rfl

/-- The layout that a pass takes: the first of the shedding order that fits the window. -/
structure FirstFit (i : PassInputs) (l : Layout) : Prop where
  order : ∃ before after, sheddingOrder i = before ++ l :: after ∧ ∀ x ∈ before, fits i x = false
  fits : fits i l = true

/-- The vertices left out: the fewest with which the list fits, or all that may be. -/
theorem shedVertices_cases (i : PassInputs) :
    (∃ as k bs, List.range (droppable i) = as ++ k :: bs ∧ fits i ⟨true, k + 1, true, true⟩ = true
      ∧ (∀ x ∈ as, fits i ⟨true, x + 1, true, true⟩ = false) ∧ shedVertices i = k + 1)
    ∨ ((∀ x ∈ List.range (droppable i), fits i ⟨true, x + 1, true, true⟩ = false) ∧ shedVertices i = droppable i) := by
  unfold shedVertices
  split
  · next h =>
    rw [droppable, if_pos h.1]
    cases hf : (List.range (i.trail.length - 1)).find? (fun n => Machine.fits i ⟨true, n + 1, true, true⟩) with
    | none => exact .inr ⟨by simpa using List.find?_eq_none.mp hf, rfl⟩
    | some k =>
      obtain ⟨hk, as, bs, hsplit, has⟩ := List.find?_eq_some_iff_append.mp hf
      exact .inl ⟨as, k, bs, hsplit, hk, by simpa using has, rfl⟩
  · next h =>
    have hzero : droppable i = 0 := by
      unfold droppable
      split
      · next hpoly =>
        have hshort : ¬ 2 ≤ i.trail.length := fun hl => h ⟨hpoly, hl⟩
        omega
      · rfl
    exact .inr ⟨by simp [hzero], hzero.symm⟩

/-- What the pass stages by a layout: the list, and what was shed on the way to it. -/
def stagedBy (i : PassInputs) (l : Layout) : Composed :=
  ⟨listOf i l, decide (∃ x ∈ bandLines i, Capped i x), l.solid && decide (∃ x ∈ bandLines i, Dashed i x), decide (0 < l.drop),
    !l.marker && decide (markerOf i ≠ []), !l.band && decide (bandTable i true l.drop none ≠ []), l.drop, i.resultSeq⟩

theorem hasMarker_eq (i : PassInputs) : hasMarker i = decide (markerOf i ≠ []) := by
  rw [hasMarker, markerPart_eq]
  cases markerOf i <;> rfl

theorem hasBand_eq (i : PassInputs) (n : Nat) : hasBand i n = decide (bandTable i true n none ≠ []) := by
  rw [hasBand, bandRecs_eq]
  cases bandTable i true n none <;> rfl

/-- The layouts that a pass tries, each with what it stages. -/
theorem composeList_eq (hpart : noPart i = false) : composeList i =
    if fits i ⟨false, 0, true, true⟩ then stagedBy i ⟨false, 0, true, true⟩
    else if fits i ⟨true, 0, true, true⟩ then stagedBy i ⟨true, 0, true, true⟩
    else if fits i ⟨true, shedVertices i, true, true⟩ then stagedBy i ⟨true, shedVertices i, true, true⟩
    else if fits i ⟨true, shedVertices i, false, true⟩ then stagedBy i ⟨true, shedVertices i, false, true⟩
    else stagedBy i ⟨true, shedVertices i, false, false⟩ := by
  simp only [composeList, hpart, Bool.false_eq_true, if_false, stagedBy, layoutRecs_eq, anyCapped_eq, shedDashes_eq,
    hasMarker_eq, hasBand_eq, Bool.false_and, Bool.true_and, Bool.not_true, Bool.not_false, Nat.lt_irrefl, decide_false]

/-- With the dashes solid and the list too long, the vertices left out come next in the order. -/
theorem firstFit_shedVertices (h0 : fits i ⟨false, 0, true, true⟩ = false) (h1 : fits i ⟨true, 0, true, true⟩ = false)
    (h : fits i ⟨true, shedVertices i, true, true⟩ = true) : FirstFit i ⟨true, shedVertices i, true, true⟩ := by
  refine ⟨?_, h⟩
  obtain ⟨as, k, bs, hsplit, -, has, hm⟩ | ⟨hnone, hm⟩ := shedVertices_cases i
  · refine ⟨⟨false, 0, true, true⟩ :: ⟨true, 0, true, true⟩ :: as.map fun k => ⟨true, k + 1, true, true⟩,
      (bs.map fun k => ⟨true, k + 1, true, true⟩) ++ [⟨true, droppable i, false, true⟩, ⟨true, droppable i, false, false⟩], ?_, ?_⟩
    · rw [sheddingOrder_eq, fullLayouts, hsplit, hm]
      simp
    · simpa [h0, h1] using has
  · rw [hm] at h
    cases hd : droppable i with
    | zero =>
      rw [hd, h1] at h
      cases h
    | succ n =>
      have hlast := hnone n (by simp [hd])
      rw [hd, hlast] at h
      cases h

/-- Where no number of vertices left out is enough, the marker and the band go. -/
theorem order_of_no_fit (h0 : fits i ⟨false, 0, true, true⟩ = false) (h1 : fits i ⟨true, 0, true, true⟩ = false)
    (h : fits i ⟨true, shedVertices i, true, true⟩ = false) : shedVertices i = droppable i
      ∧ ∀ x ∈ fullLayouts i, fits i x = false := by
  obtain ⟨as, k, bs, -, hfits, -, hm⟩ | ⟨hnone, hm⟩ := shedVertices_cases i
  · rw [hm, hfits] at h
    cases h
  · exact ⟨hm, by simpa [fullLayouts, h0, h1] using hnone⟩

theorem firstFit_composeList (hlimit : 32 ≤ i.windowLen) (hpart : noPart i = false) :
    ∃ l, FirstFit i l ∧ composeList i = stagedBy i l := by
  rw [composeList_eq hpart]
  cases h0 : fits i ⟨false, 0, true, true⟩ with
  | true => exact ⟨_, ⟨⟨[], _, sheddingOrder_eq i, fun _ hx => absurd hx List.not_mem_nil⟩, h0⟩, rfl⟩
  | false =>
  cases h1 : fits i ⟨true, 0, true, true⟩ with
  | true => exact ⟨_, ⟨⟨[_], _, sheddingOrder_eq i, by simpa using h0⟩, h1⟩, rfl⟩
  | false =>
  cases h2 : fits i ⟨true, shedVertices i, true, true⟩ with
  | true => exact ⟨_, firstFit_shedVertices h0 h1 h2, rfl⟩
  | false =>
  obtain ⟨hm, hbefore⟩ := order_of_no_fit h0 h1 h2
  rw [hm]
  cases h3 : fits i ⟨true, droppable i, false, true⟩ with
  | true =>
    exact ⟨_, ⟨⟨fullLayouts i, _, sheddingOrder_eq i, hbefore⟩, h3⟩, rfl⟩
  | false =>
    refine ⟨_, ⟨⟨fullLayouts i ++ [⟨true, droppable i, false, true⟩], [], ?_, fun x hx => ?_⟩,
      (fits_iff i _).mpr (cursorAlone_fits i (droppable i) hlimit)⟩, rfl⟩
    · exact (sheddingOrder_eq i).trans (by simp)
    · obtain hx | hx := List.mem_append.mp hx
      · exact hbefore x hx
      · rwa [List.mem_singleton.mp hx]

/-- Settles O31. -/
theorem passEnds : Obligations.PassEnds := by
  intro s
  refine ⟨fun i hi hagain => ?_, fun i hi hagain => ?_, exec_passEnd_of_quiet, fun hop hpass => ?_,
    fun hop hpass => trigger_of_composing hop hpass, trigger_of_not_active, fun i hi => ?_, fun i hlimit hi => ?_⟩
  · rw [exec_passEnd_of_pass hi, endPass_of_once hagain]
  · rw [exec_passEnd_of_pass hi, endPass_of_again hagain]
  · rw [trigger_of_quiet hop hpass, passInputs_eq]
  · have hpart : noPart i = true := (noPart_iff i).mpr hi
    rw [composeList]
    exact if_pos hpart
  · have hpart : noPart i = false := by
      rw [← Bool.not_eq_true, noPart_iff]
      exact hi
    obtain ⟨l, ⟨⟨before, after, horder, hbefore⟩, hfits⟩, hlist⟩ := firstFit_composeList hlimit hpart
    refine ⟨before, l, after, horder, fun x hx => ?_, (fits_iff i l).mp hfits, hlist⟩
    have hover := hbefore x hx
    rw [← Bool.not_eq_true, fits_iff] at hover
    omega

end Sys2Proof.Machine
